-- ==== Sys2Proof/Word.lean ====
section
/-!
DEFINITION. The word types of the К1810ВМ86 (spec/00_scope.md R6): the byte, the 16-bit word and the 20-bit physical
address, all bit vectors numbered as R9 numbers them (bit 0 least significant).
-/
namespace Sys2Proof

/-- A byte, 8 bits (R6). -/
abbrev Byte := BitVec 8

/-- A word: a register, an offset, a segment value or a port address, 16 bits (R6). -/
abbrev Word := BitVec 16

/-- A physical memory address, 20 bits (R6, R63). -/
abbrev PhysAddr := BitVec 20

end Sys2Proof
end

