-- ==== Sys2Proof/Machine/Bytes.lean ====
section
/-!
DEFINITION. Byte order, halves and sign extension (R9, R10, R60, R61): the helpers shared by the decoder, the registers
and the memory.
-/
namespace Sys2Proof

/-- The low byte of a word, bits 7 to 0 (R9). -/
def lowByte (w : Word) : Byte := w.setWidth 8

/-- The high byte of a word, bits 15 to 8 (R9). -/
def highByte (w : Word) : Byte := w.extractLsb' 8 8

/-- The word with the given low and high byte; the low byte stands at the lower address (R60). -/
def wordOf (lo hi : Byte) : Word := hi ++ lo

/-- `w` with its low byte replaced (R21). -/
def withLow (w : Word) (v : Byte) : Word := wordOf v (highByte w)

/-- `w` with its high byte replaced (R21). -/
def withHigh (w : Word) (v : Byte) : Word := wordOf (lowByte w) v

/-- `sext_16` of a byte (R10). -/
def sext16 (v : Byte) : Word := v.signExtend 16

/-- `zext_16` of a byte (R10). -/
def zext16 (v : Byte) : Word := v.setWidth 16

end Sys2Proof
end

