-- ==== Sys2Proof/Syntax.lean ====
section
/-!
DEFINITION. The instructions of the К1810ВМ86 as data: registers, operands, and one constructor of `Instr` per row of
spec/opcode_table.json (prefix rows included: a prefix byte is an instruction of its own, assumption log 15), and the
reasons the decoder rejects bytes.
-/
namespace Sys2Proof

/-- The eight 16-bit general registers, in the order of their codes (R106). -/
inductive Reg16 where
  | ax | cx | dx | bx | sp | bp | si | di
deriving DecidableEq, Repr

/-- The eight byte registers, in the order of their codes (R106, R21). -/
inductive Reg8 where
  | al | cl | dl | bl | ah | ch | dh | bh
deriving DecidableEq, Repr

/-- The four segment registers, in the order of their codes (R106). -/
inductive SReg where
  | es | cs | ss | ds
deriving DecidableEq, Repr

/-- The eight base sums of an effective address, in the order of the r/m codes (R109). -/
inductive EaBase where
  | bxSi | bxDi | bpSi | bpDi | si | di | bp | bx
deriving DecidableEq, Repr

/-- A memory operand as the postbyte and its displacement give it (R107 to R110). -/
inductive Mem where
  /-- Absolute: mod = 00, r/m = 110, a two-byte displacement (R110). -/
  | direct (disp : Word)
  /-- mod = 00, no displacement; `bp` has no such code (R110). -/
  | base (b : EaBase)
  /-- mod = 01, a one-byte displacement, sign-extended (R70). -/
  | disp8 (b : EaBase) (disp : Byte)
  /-- mod = 10, a two-byte displacement. -/
  | disp16 (b : EaBase) (disp : Word)
deriving DecidableEq, Repr

/-- The byte operand located by the postbyte: a byte register (mod = 11) or memory (R108). -/
inductive Rm8 where
  | reg (r : Reg8)
  | mem (m : Mem)
deriving DecidableEq, Repr

/-- The word operand located by the postbyte: a word register (mod = 11) or memory (R108). -/
inductive Rm16 where
  | reg (r : Reg16)
  | mem (m : Mem)
deriving DecidableEq, Repr

/-- The instructions, one constructor per row of spec/opcode_table.json: first those with operands, then those
without, each in the table's order.
`m` is the operand of the postbyte, `r` the register, `v` an immediate, `rel` a displacement relative to the offset of
the byte after the instruction, `a` a direct offset, `p` a port number, `t` an interrupt type, `n` a stack adjustment. -/
inductive Instr where
  /-- ADD r/m8, r8: 00 (R182). -/
  | addRm8R8 (m : Rm8) (r : Reg8)
  /-- ADD r/m16, r16: 01 (R182). -/
  | addRm16R16 (m : Rm16) (r : Reg16)
  /-- ADD r8, r/m8: 02 (R182). -/
  | addR8Rm8 (r : Reg8) (m : Rm8)
  /-- ADD r16, r/m16: 03 (R182). -/
  | addR16Rm16 (r : Reg16) (m : Rm16)
  /-- ADD AL, imm8: 04 (R182). -/
  | addAlImm8 (v : Byte)
  /-- ADD AX, imm16: 05 (R182). -/
  | addAxImm16 (v : Word)
  /-- OR r/m8, r8: 08 (R222). -/
  | orRm8R8 (m : Rm8) (r : Reg8)
  /-- OR r/m16, r16: 09 (R222). -/
  | orRm16R16 (m : Rm16) (r : Reg16)
  /-- OR r8, r/m8: 0A (R222). -/
  | orR8Rm8 (r : Reg8) (m : Rm8)
  /-- OR r16, r/m16: 0B (R222). -/
  | orR16Rm16 (r : Reg16) (m : Rm16)
  /-- OR AL, imm8: 0C (R222). -/
  | orAlImm8 (v : Byte)
  /-- OR AX, imm16: 0D (R222). -/
  | orAxImm16 (v : Word)
  /-- ADC r/m8, r8: 10 (R183). -/
  | adcRm8R8 (m : Rm8) (r : Reg8)
  /-- ADC r/m16, r16: 11 (R183). -/
  | adcRm16R16 (m : Rm16) (r : Reg16)
  /-- ADC r8, r/m8: 12 (R183). -/
  | adcR8Rm8 (r : Reg8) (m : Rm8)
  /-- ADC r16, r/m16: 13 (R183). -/
  | adcR16Rm16 (r : Reg16) (m : Rm16)
  /-- ADC AL, imm8: 14 (R183). -/
  | adcAlImm8 (v : Byte)
  /-- ADC AX, imm16: 15 (R183). -/
  | adcAxImm16 (v : Word)
  /-- SBB r/m8, r8: 18 (R186). -/
  | sbbRm8R8 (m : Rm8) (r : Reg8)
  /-- SBB r/m16, r16: 19 (R186). -/
  | sbbRm16R16 (m : Rm16) (r : Reg16)
  /-- SBB r8, r/m8: 1A (R186). -/
  | sbbR8Rm8 (r : Reg8) (m : Rm8)
  /-- SBB r16, r/m16: 1B (R186). -/
  | sbbR16Rm16 (r : Reg16) (m : Rm16)
  /-- SBB AL, imm8: 1C (R186). -/
  | sbbAlImm8 (v : Byte)
  /-- SBB AX, imm16: 1D (R186). -/
  | sbbAxImm16 (v : Word)
  /-- AND r/m8, r8: 20 (R221). -/
  | andRm8R8 (m : Rm8) (r : Reg8)
  /-- AND r/m16, r16: 21 (R221). -/
  | andRm16R16 (m : Rm16) (r : Reg16)
  /-- AND r8, r/m8: 22 (R221). -/
  | andR8Rm8 (r : Reg8) (m : Rm8)
  /-- AND r16, r/m16: 23 (R221). -/
  | andR16Rm16 (r : Reg16) (m : Rm16)
  /-- AND AL, imm8: 24 (R221). -/
  | andAlImm8 (v : Byte)
  /-- AND AX, imm16: 25 (R221). -/
  | andAxImm16 (v : Word)
  /-- SUB r/m8, r8: 28 (R185). -/
  | subRm8R8 (m : Rm8) (r : Reg8)
  /-- SUB r/m16, r16: 29 (R185). -/
  | subRm16R16 (m : Rm16) (r : Reg16)
  /-- SUB r8, r/m8: 2A (R185). -/
  | subR8Rm8 (r : Reg8) (m : Rm8)
  /-- SUB r16, r/m16: 2B (R185). -/
  | subR16Rm16 (r : Reg16) (m : Rm16)
  /-- SUB AL, imm8: 2C (R185). -/
  | subAlImm8 (v : Byte)
  /-- SUB AX, imm16: 2D (R185). -/
  | subAxImm16 (v : Word)
  /-- XOR r/m8, r8: 30 (R223). -/
  | xorRm8R8 (m : Rm8) (r : Reg8)
  /-- XOR r/m16, r16: 31 (R223). -/
  | xorRm16R16 (m : Rm16) (r : Reg16)
  /-- XOR r8, r/m8: 32 (R223). -/
  | xorR8Rm8 (r : Reg8) (m : Rm8)
  /-- XOR r16, r/m16: 33 (R223). -/
  | xorR16Rm16 (r : Reg16) (m : Rm16)
  /-- XOR AL, imm8: 34 (R223). -/
  | xorAlImm8 (v : Byte)
  /-- XOR AX, imm16: 35 (R223). -/
  | xorAxImm16 (v : Word)
  /-- CMP r/m8, r8: 38 (R189). -/
  | cmpRm8R8 (m : Rm8) (r : Reg8)
  /-- CMP r/m16, r16: 39 (R189). -/
  | cmpRm16R16 (m : Rm16) (r : Reg16)
  /-- CMP r8, r/m8: 3A (R189). -/
  | cmpR8Rm8 (r : Reg8) (m : Rm8)
  /-- CMP r16, r/m16: 3B (R189). -/
  | cmpR16Rm16 (r : Reg16) (m : Rm16)
  /-- CMP AL, imm8: 3C (R189). -/
  | cmpAlImm8 (v : Byte)
  /-- CMP AX, imm16: 3D (R189). -/
  | cmpAxImm16 (v : Word)
  /-- INC r16: 40 to 47 (R184). -/
  | incR16 (r : Reg16)
  /-- DEC r16: 48 to 4F (R187). -/
  | decR16 (r : Reg16)
  /-- PUSH r16: 50 to 57 (R162). -/
  | pushR16 (r : Reg16)
  /-- POP r16: 58 to 5F (R163). -/
  | popR16 (r : Reg16)
  /-- JO rel8: 70 (R257). -/
  | jo (rel : Byte)
  /-- JNO rel8: 71 (R258). -/
  | jno (rel : Byte)
  /-- JB/JNAE/JC rel8: 72 (R259). -/
  | jb (rel : Byte)
  /-- JAE/JNB/JNC rel8: 73 (R260). -/
  | jae (rel : Byte)
  /-- JE/JZ rel8: 74 (R261). -/
  | je (rel : Byte)
  /-- JNE/JNZ rel8: 75 (R262). -/
  | jne (rel : Byte)
  /-- JBE/JNA rel8: 76 (R263). -/
  | jbe (rel : Byte)
  /-- JA/JNBE rel8: 77 (R264). -/
  | ja (rel : Byte)
  /-- JS rel8: 78 (R265). -/
  | js (rel : Byte)
  /-- JNS rel8: 79 (R266). -/
  | jns (rel : Byte)
  /-- JP/JPE rel8: 7A (R267). -/
  | jp (rel : Byte)
  /-- JNP/JPO rel8: 7B (R268). -/
  | jnp (rel : Byte)
  /-- JL/JNGE rel8: 7C (R269). -/
  | jl (rel : Byte)
  /-- JGE/JNL rel8: 7D (R270). -/
  | jge (rel : Byte)
  /-- JLE/JNG rel8: 7E (R271). -/
  | jle (rel : Byte)
  /-- JG/JNLE rel8: 7F (R272). -/
  | jg (rel : Byte)
  /-- ADD r/m8, imm8: 80 /0 (R182). -/
  | addRm8Imm8 (m : Rm8) (v : Byte)
  /-- ADD r/m16, imm16: 81 /0 (R182). -/
  | addRm16Imm16 (m : Rm16) (v : Word)
  /-- ADD r/m8, imm8 (second code of 80): 82 /0 (R182). -/
  | addRm8Imm8Alt (m : Rm8) (v : Byte)
  /-- ADD r/m16, sext imm8: 83 /0 (R182). -/
  | addRm16SImm8 (m : Rm16) (v : Byte)
  /-- OR r/m8, imm8: 80 /1 (R222). -/
  | orRm8Imm8 (m : Rm8) (v : Byte)
  /-- OR r/m16, imm16: 81 /1 (R222). -/
  | orRm16Imm16 (m : Rm16) (v : Word)
  /-- ADC r/m8, imm8: 80 /2 (R183). -/
  | adcRm8Imm8 (m : Rm8) (v : Byte)
  /-- ADC r/m16, imm16: 81 /2 (R183). -/
  | adcRm16Imm16 (m : Rm16) (v : Word)
  /-- ADC r/m8, imm8 (second code of 80): 82 /2 (R183). -/
  | adcRm8Imm8Alt (m : Rm8) (v : Byte)
  /-- ADC r/m16, sext imm8: 83 /2 (R183). -/
  | adcRm16SImm8 (m : Rm16) (v : Byte)
  /-- SBB r/m8, imm8: 80 /3 (R186). -/
  | sbbRm8Imm8 (m : Rm8) (v : Byte)
  /-- SBB r/m16, imm16: 81 /3 (R186). -/
  | sbbRm16Imm16 (m : Rm16) (v : Word)
  /-- SBB r/m8, imm8 (second code of 80): 82 /3 (R186). -/
  | sbbRm8Imm8Alt (m : Rm8) (v : Byte)
  /-- SBB r/m16, sext imm8: 83 /3 (R186). -/
  | sbbRm16SImm8 (m : Rm16) (v : Byte)
  /-- AND r/m8, imm8: 80 /4 (R221). -/
  | andRm8Imm8 (m : Rm8) (v : Byte)
  /-- AND r/m16, imm16: 81 /4 (R221). -/
  | andRm16Imm16 (m : Rm16) (v : Word)
  /-- SUB r/m8, imm8: 80 /5 (R185). -/
  | subRm8Imm8 (m : Rm8) (v : Byte)
  /-- SUB r/m16, imm16: 81 /5 (R185). -/
  | subRm16Imm16 (m : Rm16) (v : Word)
  /-- SUB r/m8, imm8 (second code of 80): 82 /5 (R185). -/
  | subRm8Imm8Alt (m : Rm8) (v : Byte)
  /-- SUB r/m16, sext imm8: 83 /5 (R185). -/
  | subRm16SImm8 (m : Rm16) (v : Byte)
  /-- XOR r/m8, imm8: 80 /6 (R223). -/
  | xorRm8Imm8 (m : Rm8) (v : Byte)
  /-- XOR r/m16, imm16: 81 /6 (R223). -/
  | xorRm16Imm16 (m : Rm16) (v : Word)
  /-- CMP r/m8, imm8: 80 /7 (R189). -/
  | cmpRm8Imm8 (m : Rm8) (v : Byte)
  /-- CMP r/m16, imm16: 81 /7 (R189). -/
  | cmpRm16Imm16 (m : Rm16) (v : Word)
  /-- CMP r/m8, imm8 (second code of 80): 82 /7 (R189). -/
  | cmpRm8Imm8Alt (m : Rm8) (v : Byte)
  /-- CMP r/m16, sext imm8: 83 /7 (R189). -/
  | cmpRm16SImm8 (m : Rm16) (v : Byte)
  /-- TEST r/m8, r8: 84 (R224). -/
  | testRm8R8 (m : Rm8) (r : Reg8)
  /-- TEST r/m16, r16: 85 (R224). -/
  | testRm16R16 (m : Rm16) (r : Reg16)
  /-- XCHG r8, r/m8: 86 (R149). -/
  | xchgR8Rm8 (r : Reg8) (m : Rm8)
  /-- XCHG r16, r/m16: 87 (R149). -/
  | xchgR16Rm16 (r : Reg16) (m : Rm16)
  /-- MOV r/m8, r8: 88 (R141). -/
  | movRm8R8 (m : Rm8) (r : Reg8)
  /-- MOV r/m16, r16: 89 (R141). -/
  | movRm16R16 (m : Rm16) (r : Reg16)
  /-- MOV r8, r/m8: 8A (R142). -/
  | movR8Rm8 (r : Reg8) (m : Rm8)
  /-- MOV r16, r/m16: 8B (R142). -/
  | movR16Rm16 (r : Reg16) (m : Rm16)
  /-- MOV r/m16, sreg: 8C (R146). -/
  | movRm16Sreg (m : Rm16) (r : SReg)
  /-- LEA r16, m: 8D (R153). -/
  | lea (r : Reg16) (m : Mem)
  /-- MOV ES, r/m16: 8E /0 (R145). -/
  | movEsRm16 (m : Rm16)
  /-- MOV SS, r/m16: 8E /2 (R145). -/
  | movSsRm16 (m : Rm16)
  /-- MOV DS, r/m16: 8E /3 (R145). -/
  | movDsRm16 (m : Rm16)
  /-- POP r/m16: 8F /0 (R167). -/
  | popRm16 (m : Rm16)
  /-- CALL ptr16:16 (far direct): 9A (R280). -/
  | callFar (off : Word) (seg : Word)
  /-- MOV AL, [addr16]: A0 (R147). -/
  | movAlAddr (a : Word)
  /-- MOV AX, [addr16]: A1 (R147). -/
  | movAxAddr (a : Word)
  /-- MOV [addr16], AL: A2 (R147). -/
  | movAddrAl (a : Word)
  /-- MOV [addr16], AX: A3 (R147). -/
  | movAddrAx (a : Word)
  /-- TEST AL, imm8: A8 (R224). -/
  | testAlImm8 (v : Byte)
  /-- TEST AX, imm16: A9 (R224). -/
  | testAxImm16 (v : Word)
  /-- MOV r8, imm8: B0 to B7 (R144). -/
  | movR8Imm8 (r : Reg8) (v : Byte)
  /-- MOV r16, imm16: B8 to BF (R144). -/
  | movR16Imm16 (r : Reg16) (v : Word)
  /-- RET n16 (near): C2 (R283). -/
  | retNearN (n : Word)
  /-- LES r16, m: C4 (R152). -/
  | les (r : Reg16) (m : Mem)
  /-- LDS r16, m: C5 (R151). -/
  | lds (r : Reg16) (m : Mem)
  /-- MOV r/m8, imm8: C6 /0 (R143). -/
  | movRm8Imm8 (m : Rm8) (v : Byte)
  /-- MOV r/m16, imm16: C7 /0 (R143). -/
  | movRm16Imm16 (m : Rm16) (v : Word)
  /-- RET n16 (far): CA (R285). -/
  | retFarN (n : Word)
  /-- INT type8: CD (R286). -/
  | intN (t : Byte)
  /-- ROL r/m8, 1: D0 /0 (R233). -/
  | rolRm8One (m : Rm8)
  /-- ROR r/m8, 1: D0 /1 (R234). -/
  | rorRm8One (m : Rm8)
  /-- RCL r/m8, 1: D0 /2 (R235). -/
  | rclRm8One (m : Rm8)
  /-- RCR r/m8, 1: D0 /3 (R236). -/
  | rcrRm8One (m : Rm8)
  /-- SHL/SAL r/m8, 1: D0 /4 (R237). -/
  | shlRm8One (m : Rm8)
  /-- SHR r/m8, 1: D0 /5 (R238). -/
  | shrRm8One (m : Rm8)
  /-- SAR r/m8, 1: D0 /7 (R239). -/
  | sarRm8One (m : Rm8)
  /-- ROL r/m16, 1: D1 /0 (R233). -/
  | rolRm16One (m : Rm16)
  /-- ROR r/m16, 1: D1 /1 (R234). -/
  | rorRm16One (m : Rm16)
  /-- RCL r/m16, 1: D1 /2 (R235). -/
  | rclRm16One (m : Rm16)
  /-- RCR r/m16, 1: D1 /3 (R236). -/
  | rcrRm16One (m : Rm16)
  /-- SHL/SAL r/m16, 1: D1 /4 (R237). -/
  | shlRm16One (m : Rm16)
  /-- SHR r/m16, 1: D1 /5 (R238). -/
  | shrRm16One (m : Rm16)
  /-- SAR r/m16, 1: D1 /7 (R239). -/
  | sarRm16One (m : Rm16)
  /-- ROL r/m8, CL: D2 /0 (R233). -/
  | rolRm8Cl (m : Rm8)
  /-- ROR r/m8, CL: D2 /1 (R234). -/
  | rorRm8Cl (m : Rm8)
  /-- RCL r/m8, CL: D2 /2 (R235). -/
  | rclRm8Cl (m : Rm8)
  /-- RCR r/m8, CL: D2 /3 (R236). -/
  | rcrRm8Cl (m : Rm8)
  /-- SHL/SAL r/m8, CL: D2 /4 (R237). -/
  | shlRm8Cl (m : Rm8)
  /-- SHR r/m8, CL: D2 /5 (R238). -/
  | shrRm8Cl (m : Rm8)
  /-- SAR r/m8, CL: D2 /7 (R239). -/
  | sarRm8Cl (m : Rm8)
  /-- ROL r/m16, CL: D3 /0 (R233). -/
  | rolRm16Cl (m : Rm16)
  /-- ROR r/m16, CL: D3 /1 (R234). -/
  | rorRm16Cl (m : Rm16)
  /-- RCL r/m16, CL: D3 /2 (R235). -/
  | rclRm16Cl (m : Rm16)
  /-- RCR r/m16, CL: D3 /3 (R236). -/
  | rcrRm16Cl (m : Rm16)
  /-- SHL/SAL r/m16, CL: D3 /4 (R237). -/
  | shlRm16Cl (m : Rm16)
  /-- SHR r/m16, CL: D3 /5 (R238). -/
  | shrRm16Cl (m : Rm16)
  /-- SAR r/m16, CL: D3 /7 (R239). -/
  | sarRm16Cl (m : Rm16)
  /-- ESC ext, r/m: D8 to DF (R331). -/
  | esc (hi : BitVec 3) (lo : BitVec 3) (m : Rm16)
  /-- LOOPNE/LOOPNZ rel8: E0 (R276). -/
  | loopne (rel : Byte)
  /-- LOOPE/LOOPZ rel8: E1 (R275). -/
  | loope (rel : Byte)
  /-- LOOP rel8: E2 (R274). -/
  | loop (rel : Byte)
  /-- JCXZ rel8: E3 (R277). -/
  | jcxz (rel : Byte)
  /-- IN AL, port8: E4 (R168). -/
  | inAlPort (p : Byte)
  /-- IN AX, port8: E5 (R168). -/
  | inAxPort (p : Byte)
  /-- OUT port8, AL: E6 (R169). -/
  | outPortAl (p : Byte)
  /-- OUT port8, AX: E7 (R169). -/
  | outPortAx (p : Byte)
  /-- CALL rel16 (near direct): E8 (R278). -/
  | callNear (rel : Word)
  /-- JMP rel16 (near direct): E9 (R252). -/
  | jmpNear (rel : Word)
  /-- JMP ptr16:16 (far direct): EA (R254). -/
  | jmpFar (off : Word) (seg : Word)
  /-- JMP rel8 (short): EB (R251). -/
  | jmpShort (rel : Byte)
  /-- TEST r/m8, imm8: F6 /0 (R224). -/
  | testRm8Imm8 (m : Rm8) (v : Byte)
  /-- NOT r/m8: F6 /2 (R225). -/
  | notRm8 (m : Rm8)
  /-- NEG r/m8: F6 /3 (R188). -/
  | negRm8 (m : Rm8)
  /-- MUL r/m8: F6 /4 (R196). -/
  | mulRm8 (m : Rm8)
  /-- IMUL r/m8: F6 /5 (R197). -/
  | imulRm8 (m : Rm8)
  /-- DIV r/m8: F6 /6 (R200). -/
  | divRm8 (m : Rm8)
  /-- IDIV r/m8: F6 /7 (R203). -/
  | idivRm8 (m : Rm8)
  /-- TEST r/m16, imm16: F7 /0 (R224). -/
  | testRm16Imm16 (m : Rm16) (v : Word)
  /-- NOT r/m16: F7 /2 (R225). -/
  | notRm16 (m : Rm16)
  /-- NEG r/m16: F7 /3 (R188). -/
  | negRm16 (m : Rm16)
  /-- MUL r/m16: F7 /4 (R196). -/
  | mulRm16 (m : Rm16)
  /-- IMUL r/m16: F7 /5 (R197). -/
  | imulRm16 (m : Rm16)
  /-- DIV r/m16: F7 /6 (R200). -/
  | divRm16 (m : Rm16)
  /-- IDIV r/m16: F7 /7 (R203). -/
  | idivRm16 (m : Rm16)
  /-- INC r/m8: FE /0 (R184). -/
  | incRm8 (m : Rm8)
  /-- DEC r/m8: FE /1 (R187). -/
  | decRm8 (m : Rm8)
  /-- INC r/m16: FF /0 (R184). -/
  | incRm16 (m : Rm16)
  /-- DEC r/m16: FF /1 (R187). -/
  | decRm16 (m : Rm16)
  /-- CALL r/m16 (near indirect): FF /2 (R279). -/
  | callRm16 (m : Rm16)
  /-- CALL m16:16 (far indirect): FF /3 (R281). -/
  | callMem (m : Mem)
  /-- JMP r/m16 (near indirect): FF /4 (R253). -/
  | jmpRm16 (m : Rm16)
  /-- JMP m16:16 (far indirect): FF /5 (R255). -/
  | jmpMem (m : Mem)
  /-- PUSH r/m16: FF /6 (R166). -/
  | pushRm16 (m : Rm16)
  /-- PUSH ES: 06 (R164). -/
  | pushEs
  /-- POP ES: 07 (R165). -/
  | popEs
  /-- ES: (segment override prefix): 26 (R68). -/
  | overrideEs
  /-- PUSH CS: 0E (R164). -/
  | pushCs
  /-- CS: (segment override prefix): 2E (R68). -/
  | overrideCs
  /-- PUSH SS: 16 (R164). -/
  | pushSs
  /-- POP SS: 17 (R165). -/
  | popSs
  /-- SS: (segment override prefix): 36 (R68). -/
  | overrideSs
  /-- PUSH DS: 1E (R164). -/
  | pushDs
  /-- POP DS: 1F (R165). -/
  | popDs
  /-- DS: (segment override prefix): 3E (R68). -/
  | overrideDs
  /-- DAA: 27 (R341). -/
  | daa
  /-- DAS: 2F (R342). -/
  | das
  /-- AAA: 37 (R343). -/
  | aaa
  /-- AAS: 3F (R344). -/
  | aas
  /-- NOP (XCHG AX, AX): 90 (R330). -/
  | nop
  /-- XCHG AX, CX: 91 (R150). -/
  | xchgAxCx
  /-- XCHG AX, DX: 92 (R150). -/
  | xchgAxDx
  /-- XCHG AX, BX: 93 (R150). -/
  | xchgAxBx
  /-- XCHG AX, SP: 94 (R150). -/
  | xchgAxSp
  /-- XCHG AX, BP: 95 (R150). -/
  | xchgAxBp
  /-- XCHG AX, SI: 96 (R150). -/
  | xchgAxSi
  /-- XCHG AX, DI: 97 (R150). -/
  | xchgAxDi
  /-- CBW: 98 (R204). -/
  | cbw
  /-- CWD: 99 (R205). -/
  | cwd
  /-- WAIT: 9B (R328). -/
  | wait
  /-- PUSHF: 9C (R170). -/
  | pushf
  /-- POPF: 9D (R171). -/
  | popf
  /-- SAHF: 9E (R155). -/
  | sahf
  /-- LAHF: 9F (R154). -/
  | lahf
  /-- MOVSB: A4 (R305). -/
  | movsb
  /-- MOVSW: A5 (R305). -/
  | movsw
  /-- CMPSB: A6 (R306). -/
  | cmpsb
  /-- CMPSW: A7 (R306). -/
  | cmpsw
  /-- STOSB: AA (R309). -/
  | stosb
  /-- STOSW: AB (R309). -/
  | stosw
  /-- LODSB: AC (R308). -/
  | lodsb
  /-- LODSW: AD (R308). -/
  | lodsw
  /-- SCASB: AE (R307). -/
  | scasb
  /-- SCASW: AF (R307). -/
  | scasw
  /-- RET (near): C3 (R282). -/
  | retNear
  /-- RET (far): CB (R284). -/
  | retFar
  /-- INT 3: CC (R287). -/
  | int3
  /-- INTO: CE (R288). -/
  | into
  /-- IRET: CF (R289). -/
  | iret
  /-- AAM: D4 0A (R345). -/
  | aam
  /-- AAD: D5 0A (R346). -/
  | aad
  /-- XLAT: D7 (R148). -/
  | xlat
  /-- IN AL, DX: EC (R168). -/
  | inAlDx
  /-- IN AX, DX: ED (R168). -/
  | inAxDx
  /-- OUT DX, AL: EE (R169). -/
  | outDxAl
  /-- OUT DX, AX: EF (R169). -/
  | outDxAx
  /-- LOCK (prefix): F0 (R329). -/
  | lockPrefix
  /-- REPNE/REPNZ (prefix): F2 (R302). -/
  | repne
  /-- REP/REPE/REPZ (prefix): F3 (R302). -/
  | rep
  /-- HLT: F4 (R327). -/
  | hlt
  /-- CMC: F5 (R322). -/
  | cmc
  /-- CLC: F8 (R321). -/
  | clc
  /-- STC: F9 (R320). -/
  | stc
  /-- CLI: FA (R326). -/
  | cli
  /-- STI: FB (R325). -/
  | sti
  /-- CLD: FC (R324). -/
  | cld
  /-- STD: FD (R323). -/
  | std
deriving DecidableEq, Repr

/-- Why the decoder rejects bytes (R126, R124): no meaning is given to any of these. -/
inductive Reject where
  /-- The bytes end before the instruction does. -/
  | truncated
  /-- A first byte with no instruction (R126). -/
  | undefinedOpcode
  /-- A postbyte extension with no instruction (R126). -/
  | undefinedExtension
  /-- A register form (mod = 11) where the operand must be memory (R124). -/
  | memoryOnly
  /-- A `reg` field that names no segment register this instruction may use: 8C and 8E with bit 5 set, 8E with CS (R126). -/
  | noSuchSegment
  /-- AAM or AAD with a second byte other than 0Ah (R345, R346). -/
  | adjustByte
deriving DecidableEq, Repr

end Sys2Proof
end

