-- ==== Sys2Proof/WellFormed.lean ====
section
/-!
DEFINITION. Which instruction terms have an encoding. The only term without one is a memory operand `[BP]` with no
displacement: its code is the absolute mode's (R110), and an assembler writes it with a zero D8.
-/
namespace Sys2Proof

/-- A memory operand that has a postbyte of its own (R110). -/
def Mem.wellFormed : Mem → Bool
  | .direct _ => true
  | .base .bp => false
  | .base _ => true
  | .disp8 _ _ => true
  | .disp16 _ _ => true

/-- A byte operand that has a postbyte. -/
def Rm8.wellFormed : Rm8 → Bool
  | .reg _ => true
  | .mem m => m.wellFormed

/-- A word operand that has a postbyte. -/
def Rm16.wellFormed : Rm16 → Bool
  | .reg _ => true
  | .mem m => m.wellFormed

/-- An instruction that has an encoding: its memory operand, if it has one, is well formed. -/
def Instr.wellFormed : Instr → Bool
  | .addRm8R8 m _ => m.wellFormed
  | .addRm16R16 m _ => m.wellFormed
  | .addR8Rm8 _ m => m.wellFormed
  | .addR16Rm16 _ m => m.wellFormed
  | .addAlImm8 _ => true
  | .addAxImm16 _ => true
  | .orRm8R8 m _ => m.wellFormed
  | .orRm16R16 m _ => m.wellFormed
  | .orR8Rm8 _ m => m.wellFormed
  | .orR16Rm16 _ m => m.wellFormed
  | .orAlImm8 _ => true
  | .orAxImm16 _ => true
  | .adcRm8R8 m _ => m.wellFormed
  | .adcRm16R16 m _ => m.wellFormed
  | .adcR8Rm8 _ m => m.wellFormed
  | .adcR16Rm16 _ m => m.wellFormed
  | .adcAlImm8 _ => true
  | .adcAxImm16 _ => true
  | .sbbRm8R8 m _ => m.wellFormed
  | .sbbRm16R16 m _ => m.wellFormed
  | .sbbR8Rm8 _ m => m.wellFormed
  | .sbbR16Rm16 _ m => m.wellFormed
  | .sbbAlImm8 _ => true
  | .sbbAxImm16 _ => true
  | .andRm8R8 m _ => m.wellFormed
  | .andRm16R16 m _ => m.wellFormed
  | .andR8Rm8 _ m => m.wellFormed
  | .andR16Rm16 _ m => m.wellFormed
  | .andAlImm8 _ => true
  | .andAxImm16 _ => true
  | .subRm8R8 m _ => m.wellFormed
  | .subRm16R16 m _ => m.wellFormed
  | .subR8Rm8 _ m => m.wellFormed
  | .subR16Rm16 _ m => m.wellFormed
  | .subAlImm8 _ => true
  | .subAxImm16 _ => true
  | .xorRm8R8 m _ => m.wellFormed
  | .xorRm16R16 m _ => m.wellFormed
  | .xorR8Rm8 _ m => m.wellFormed
  | .xorR16Rm16 _ m => m.wellFormed
  | .xorAlImm8 _ => true
  | .xorAxImm16 _ => true
  | .cmpRm8R8 m _ => m.wellFormed
  | .cmpRm16R16 m _ => m.wellFormed
  | .cmpR8Rm8 _ m => m.wellFormed
  | .cmpR16Rm16 _ m => m.wellFormed
  | .cmpAlImm8 _ => true
  | .cmpAxImm16 _ => true
  | .incR16 _ => true
  | .decR16 _ => true
  | .pushR16 _ => true
  | .popR16 _ => true
  | .jo _ => true
  | .jno _ => true
  | .jb _ => true
  | .jae _ => true
  | .je _ => true
  | .jne _ => true
  | .jbe _ => true
  | .ja _ => true
  | .js _ => true
  | .jns _ => true
  | .jp _ => true
  | .jnp _ => true
  | .jl _ => true
  | .jge _ => true
  | .jle _ => true
  | .jg _ => true
  | .addRm8Imm8 m _ => m.wellFormed
  | .addRm16Imm16 m _ => m.wellFormed
  | .addRm8Imm8Alt m _ => m.wellFormed
  | .addRm16SImm8 m _ => m.wellFormed
  | .orRm8Imm8 m _ => m.wellFormed
  | .orRm16Imm16 m _ => m.wellFormed
  | .adcRm8Imm8 m _ => m.wellFormed
  | .adcRm16Imm16 m _ => m.wellFormed
  | .adcRm8Imm8Alt m _ => m.wellFormed
  | .adcRm16SImm8 m _ => m.wellFormed
  | .sbbRm8Imm8 m _ => m.wellFormed
  | .sbbRm16Imm16 m _ => m.wellFormed
  | .sbbRm8Imm8Alt m _ => m.wellFormed
  | .sbbRm16SImm8 m _ => m.wellFormed
  | .andRm8Imm8 m _ => m.wellFormed
  | .andRm16Imm16 m _ => m.wellFormed
  | .subRm8Imm8 m _ => m.wellFormed
  | .subRm16Imm16 m _ => m.wellFormed
  | .subRm8Imm8Alt m _ => m.wellFormed
  | .subRm16SImm8 m _ => m.wellFormed
  | .xorRm8Imm8 m _ => m.wellFormed
  | .xorRm16Imm16 m _ => m.wellFormed
  | .cmpRm8Imm8 m _ => m.wellFormed
  | .cmpRm16Imm16 m _ => m.wellFormed
  | .cmpRm8Imm8Alt m _ => m.wellFormed
  | .cmpRm16SImm8 m _ => m.wellFormed
  | .testRm8R8 m _ => m.wellFormed
  | .testRm16R16 m _ => m.wellFormed
  | .xchgR8Rm8 _ m => m.wellFormed
  | .xchgR16Rm16 _ m => m.wellFormed
  | .movRm8R8 m _ => m.wellFormed
  | .movRm16R16 m _ => m.wellFormed
  | .movR8Rm8 _ m => m.wellFormed
  | .movR16Rm16 _ m => m.wellFormed
  | .movRm16Sreg m _ => m.wellFormed
  | .lea _ m => m.wellFormed
  | .movEsRm16 m => m.wellFormed
  | .movSsRm16 m => m.wellFormed
  | .movDsRm16 m => m.wellFormed
  | .popRm16 m => m.wellFormed
  | .callFar _ _ => true
  | .movAlAddr _ => true
  | .movAxAddr _ => true
  | .movAddrAl _ => true
  | .movAddrAx _ => true
  | .testAlImm8 _ => true
  | .testAxImm16 _ => true
  | .movR8Imm8 _ _ => true
  | .movR16Imm16 _ _ => true
  | .retNearN _ => true
  | .les _ m => m.wellFormed
  | .lds _ m => m.wellFormed
  | .movRm8Imm8 m _ => m.wellFormed
  | .movRm16Imm16 m _ => m.wellFormed
  | .retFarN _ => true
  | .intN _ => true
  | .rolRm8One m => m.wellFormed
  | .rorRm8One m => m.wellFormed
  | .rclRm8One m => m.wellFormed
  | .rcrRm8One m => m.wellFormed
  | .shlRm8One m => m.wellFormed
  | .shrRm8One m => m.wellFormed
  | .sarRm8One m => m.wellFormed
  | .rolRm16One m => m.wellFormed
  | .rorRm16One m => m.wellFormed
  | .rclRm16One m => m.wellFormed
  | .rcrRm16One m => m.wellFormed
  | .shlRm16One m => m.wellFormed
  | .shrRm16One m => m.wellFormed
  | .sarRm16One m => m.wellFormed
  | .rolRm8Cl m => m.wellFormed
  | .rorRm8Cl m => m.wellFormed
  | .rclRm8Cl m => m.wellFormed
  | .rcrRm8Cl m => m.wellFormed
  | .shlRm8Cl m => m.wellFormed
  | .shrRm8Cl m => m.wellFormed
  | .sarRm8Cl m => m.wellFormed
  | .rolRm16Cl m => m.wellFormed
  | .rorRm16Cl m => m.wellFormed
  | .rclRm16Cl m => m.wellFormed
  | .rcrRm16Cl m => m.wellFormed
  | .shlRm16Cl m => m.wellFormed
  | .shrRm16Cl m => m.wellFormed
  | .sarRm16Cl m => m.wellFormed
  | .esc _ _ m => m.wellFormed
  | .loopne _ => true
  | .loope _ => true
  | .loop _ => true
  | .jcxz _ => true
  | .inAlPort _ => true
  | .inAxPort _ => true
  | .outPortAl _ => true
  | .outPortAx _ => true
  | .callNear _ => true
  | .jmpNear _ => true
  | .jmpFar _ _ => true
  | .jmpShort _ => true
  | .testRm8Imm8 m _ => m.wellFormed
  | .notRm8 m => m.wellFormed
  | .negRm8 m => m.wellFormed
  | .mulRm8 m => m.wellFormed
  | .imulRm8 m => m.wellFormed
  | .divRm8 m => m.wellFormed
  | .idivRm8 m => m.wellFormed
  | .testRm16Imm16 m _ => m.wellFormed
  | .notRm16 m => m.wellFormed
  | .negRm16 m => m.wellFormed
  | .mulRm16 m => m.wellFormed
  | .imulRm16 m => m.wellFormed
  | .divRm16 m => m.wellFormed
  | .idivRm16 m => m.wellFormed
  | .incRm8 m => m.wellFormed
  | .decRm8 m => m.wellFormed
  | .incRm16 m => m.wellFormed
  | .decRm16 m => m.wellFormed
  | .callRm16 m => m.wellFormed
  | .callMem m => m.wellFormed
  | .jmpRm16 m => m.wellFormed
  | .jmpMem m => m.wellFormed
  | .pushRm16 m => m.wellFormed
  | .pushEs => true
  | .popEs => true
  | .overrideEs => true
  | .pushCs => true
  | .overrideCs => true
  | .pushSs => true
  | .popSs => true
  | .overrideSs => true
  | .pushDs => true
  | .popDs => true
  | .overrideDs => true
  | .daa => true
  | .das => true
  | .aaa => true
  | .aas => true
  | .nop => true
  | .xchgAxCx => true
  | .xchgAxDx => true
  | .xchgAxBx => true
  | .xchgAxSp => true
  | .xchgAxBp => true
  | .xchgAxSi => true
  | .xchgAxDi => true
  | .cbw => true
  | .cwd => true
  | .wait => true
  | .pushf => true
  | .popf => true
  | .sahf => true
  | .lahf => true
  | .movsb => true
  | .movsw => true
  | .cmpsb => true
  | .cmpsw => true
  | .stosb => true
  | .stosw => true
  | .lodsb => true
  | .lodsw => true
  | .scasb => true
  | .scasw => true
  | .retNear => true
  | .retFar => true
  | .int3 => true
  | .into => true
  | .iret => true
  | .aam => true
  | .aad => true
  | .xlat => true
  | .inAlDx => true
  | .inAxDx => true
  | .outDxAl => true
  | .outDxAx => true
  | .lockPrefix => true
  | .repne => true
  | .rep => true
  | .hlt => true
  | .cmc => true
  | .clc => true
  | .stc => true
  | .cli => true
  | .sti => true
  | .cld => true
  | .std => true

end Sys2Proof
end

