-- ==== Sys2Proof/Decode.lean ====
section
/-!
DEFINITION. The decoder and the encoder (spec/30_encoding.md R102 to R126). The decoder is one table of 256 formats, one per
first byte (R120); what no row gives is rejected by name (R126, R124). The encoder is written from the same tables,
constructor by constructor.
-/
namespace Sys2Proof

/-! ## Register, segment and base codes (R106, R109) -/

/-- `x[code]` of R106. -/
def Reg16.ofCode (c : BitVec 3) : Reg16 :=
  [Reg16.ax, .cx, .dx, .bx, .sp, .bp, .si, .di].getD c.toNat .ax

/-- The code of a word register (R106). -/
def Reg16.code : Reg16 → BitVec 3
  | .ax => 0
  | .cx => 1
  | .dx => 2
  | .bx => 3
  | .sp => 4
  | .bp => 5
  | .si => 6
  | .di => 7

/-- `x8[code]` of R106. -/
def Reg8.ofCode (c : BitVec 3) : Reg8 :=
  [Reg8.al, .cl, .dl, .bl, .ah, .ch, .dh, .bh].getD c.toNat .al

/-- The code of a byte register (R106). -/
def Reg8.code : Reg8 → BitVec 3
  | .al => 0
  | .cl => 1
  | .dl => 2
  | .bl => 3
  | .ah => 4
  | .ch => 5
  | .dh => 6
  | .bh => 7

/-- The code of a segment register in a `reg` field (R106). -/
def SReg.code : SReg → BitVec 3
  | .es => 0
  | .cs => 1
  | .ss => 2
  | .ds => 3

/-- The base sum an r/m code names (R109). -/
def EaBase.ofCode (c : BitVec 3) : EaBase :=
  [EaBase.bxSi, .bxDi, .bpSi, .bpDi, .si, .di, .bp, .bx].getD c.toNat .bx

/-- The r/m code of a base sum (R109). -/
def EaBase.code : EaBase → BitVec 3
  | .bxSi => 0
  | .bxDi => 1
  | .bpSi => 2
  | .bpDi => 3
  | .si => 4
  | .di => 5
  | .bp => 6
  | .bx => 7

/-! ## The postbyte (R105, R107, R108, R110, R112) -/

/-- The postbyte with fields `mod`, `reg`, `r/m` (R105). -/
def postbyte (mode : BitVec 2) (reg rm : BitVec 3) : Byte := mode ++ reg ++ rm

/-- Field `mod`, bits 7 to 6 (R105). -/
def modField (p : Byte) : BitVec 2 := p.extractLsb' 6 2

/-- Field `reg`, bits 5 to 3 (R105). -/
def regField (p : Byte) : BitVec 3 := p.extractLsb' 3 3

/-- Field `r/m`, bits 2 to 0 (R105). -/
def rmField (p : Byte) : BitVec 3 := p.extractLsb' 0 3

/-- What `mod` and `r/m` name: a register code, or a memory operand (R107). -/
inductive Place where
  | reg (code : BitVec 3)
  | mem (m : Mem)
deriving DecidableEq, Repr

/-- The place as a byte operand. -/
def Place.rm8 : Place → Rm8
  | .reg c => .reg (Reg8.ofCode c)
  | .mem m => .mem m

/-- The place as a word operand. -/
def Place.rm16 : Place → Rm16
  | .reg c => .reg (Reg16.ofCode c)
  | .mem m => .mem m

/-- Decoding `mod` and `r/m` with the displacement that follows the postbyte (R107, R108, R110, R112). -/
def decodePlace (p : Byte) (rest : List Byte) : Except Reject (Place × List Byte) :=
  if modField p = 3 then .ok (.reg (rmField p), rest)
  else if modField p = 0 then
    if rmField p = 6 then
      match rest with
      | lo :: hi :: more => .ok (.mem (.direct (wordOf lo hi)), more)
      | _ => .error .truncated
    else .ok (.mem (.base (EaBase.ofCode (rmField p))), rest)
  else if modField p = 1 then
    match rest with
    | d :: more => .ok (.mem (.disp8 (EaBase.ofCode (rmField p)) d), more)
    | _ => .error .truncated
  else
    match rest with
    | lo :: hi :: more => .ok (.mem (.disp16 (EaBase.ofCode (rmField p)) (wordOf lo hi)), more)
    | _ => .error .truncated

/-! ## Formats (R101, R111, R113) -/

/-- What follows the postbyte and its displacement, once its `reg` field is known. -/
inductive Tail where
  | rm8 (f : Rm8 → Instr)
  | rm16 (f : Rm16 → Instr)
  | rm8Imm8 (f : Rm8 → Byte → Instr)
  | rm16Imm16 (f : Rm16 → Word → Instr)
  /-- A word operand with a one-byte immediate, s = 1 (R104). -/
  | rm16Imm8 (f : Rm16 → Byte → Instr)
  /-- Memory only: mod = 11 is rejected (R124). -/
  | mem (f : Mem → Instr)
  | undefined (r : Reject)

/-- What follows a first byte. -/
inductive Format where
  | plain (i : Instr)
  | byteArg (f : Byte → Instr)
  | wordArg (f : Word → Instr)
  /-- Offset word, then segment word (R113). -/
  | farArg (f : Word → Word → Instr)
  /-- A second byte that must be 0Ah (R345, R346). -/
  | adjust (i : Instr)
  /-- A postbyte; its `reg` field selects the rest. -/
  | postbyte (t : BitVec 3 → Tail)
  | undefined

/-- The rest of an instruction with a postbyte. -/
def Tail.decode (t : Tail) (p : Place) (rest : List Byte) : Except Reject (Instr × List Byte) :=
  match t with
  | .rm8 f => .ok (f p.rm8, rest)
  | .rm16 f => .ok (f p.rm16, rest)
  | .rm8Imm8 f =>
    match rest with
    | v :: more => .ok (f p.rm8 v, more)
    | _ => .error .truncated
  | .rm16Imm16 f =>
    match rest with
    | lo :: hi :: more => .ok (f p.rm16 (wordOf lo hi), more)
    | _ => .error .truncated
  | .rm16Imm8 f =>
    match rest with
    | v :: more => .ok (f p.rm16 v, more)
    | _ => .error .truncated
  | .mem f =>
    match p with
    | .mem m => .ok (f m, rest)
    | .reg _ => .error .memoryOnly
  | .undefined r => .error r

/-- The rest of an instruction after its first byte. -/
def Format.decode (f : Format) (rest : List Byte) : Except Reject (Instr × List Byte) :=
  match f with
  | .plain i => .ok (i, rest)
  | .byteArg g =>
    match rest with
    | v :: more => .ok (g v, more)
    | _ => .error .truncated
  | .wordArg g =>
    match rest with
    | lo :: hi :: more => .ok (g (wordOf lo hi), more)
    | _ => .error .truncated
  | .farArg g =>
    match rest with
    | olo :: ohi :: slo :: shi :: more => .ok (g (wordOf olo ohi) (wordOf slo shi), more)
    | _ => .error .truncated
  | .adjust i =>
    match rest with
    | v :: more => if v = 0x0A then .ok (i, more) else .error .adjustByte
    | _ => .error .truncated
  | .postbyte t =>
    match rest with
    | p :: more =>
      match decodePlace p more with
      | .ok (pl, more2) => (t (regField p)).decode pl more2
      | .error e => .error e
    | _ => .error .truncated
  | .undefined => .error .undefinedOpcode

/-- A group: the `reg` field is part of the opcode; digits past the list are undefined (R126). -/
def digits (l : List Tail) (e : BitVec 3) : Tail := l.getD e.toNat (.undefined .undefinedExtension)

/-- An extension that is no instruction (R126). -/
def noDigit : Tail := .undefined .undefinedExtension

/-- `/r` with a byte register. -/
def slashR8 (f : Rm8 → Reg8 → Instr) : Format := .postbyte fun e => .rm8 fun m => f m (Reg8.ofCode e)

/-- `/r` with a word register. -/
def slashR16 (f : Rm16 → Reg16 → Instr) : Format := .postbyte fun e => .rm16 fun m => f m (Reg16.ofCode e)

/-- `/r` with a word register and a memory-only operand (R124). -/
def slashMem (f : Reg16 → Mem → Instr) : Format := .postbyte fun e => .mem fun m => f (Reg16.ofCode e) m

/-- `reg` = 0ss names a segment register (R106, R126). -/
def slashSeg (e : BitVec 3) : Tail :=
  [Tail.rm16 fun m => .movRm16Sreg m .es, .rm16 fun m => .movRm16Sreg m .cs, .rm16 fun m => .movRm16Sreg m .ss,
   .rm16 fun m => .movRm16Sreg m .ds].getD e.toNat (.undefined .noSuchSegment)

/-- MOV to a segment register; CS is not one of its destinations (R145, R126). -/
def slashSegTo (e : BitVec 3) : Tail :=
  [Tail.rm16 .movEsRm16, .undefined .noSuchSegment, .rm16 .movSsRm16, .rm16 .movDsRm16].getD e.toNat
    (.undefined .noSuchSegment)

/-- The eight shifts and rotates of a byte; /6 is undefined (R230). -/
def shiftDigits8 (a b c d e f h : Rm8 → Instr) : Format :=
  .postbyte (digits [.rm8 a, .rm8 b, .rm8 c, .rm8 d, .rm8 e, .rm8 f, noDigit, .rm8 h])

/-- The eight shifts and rotates of a word; /6 is undefined (R230). -/
def shiftDigits16 (a b c d e f h : Rm16 → Instr) : Format :=
  .postbyte (digits [.rm16 a, .rm16 b, .rm16 c, .rm16 d, .rm16 e, .rm16 f, noDigit, .rm16 h])

/-! ## The opcode map (R120), sixteen first bytes to a row -/

/-- First bytes 00 to 0F. -/
def formats0 : List Format :=
  [slashR8 .addRm8R8,
   slashR16 .addRm16R16,
   slashR8 fun m r => .addR8Rm8 r m,
   slashR16 fun m r => .addR16Rm16 r m,
   .byteArg .addAlImm8,
   .wordArg .addAxImm16,
   .plain .pushEs,
   .plain .popEs,
   slashR8 .orRm8R8,
   slashR16 .orRm16R16,
   slashR8 fun m r => .orR8Rm8 r m,
   slashR16 fun m r => .orR16Rm16 r m,
   .byteArg .orAlImm8,
   .wordArg .orAxImm16,
   .plain .pushCs,
   .undefined]

/-- First bytes 10 to 1F. -/
def formats1 : List Format :=
  [slashR8 .adcRm8R8,
   slashR16 .adcRm16R16,
   slashR8 fun m r => .adcR8Rm8 r m,
   slashR16 fun m r => .adcR16Rm16 r m,
   .byteArg .adcAlImm8,
   .wordArg .adcAxImm16,
   .plain .pushSs,
   .plain .popSs,
   slashR8 .sbbRm8R8,
   slashR16 .sbbRm16R16,
   slashR8 fun m r => .sbbR8Rm8 r m,
   slashR16 fun m r => .sbbR16Rm16 r m,
   .byteArg .sbbAlImm8,
   .wordArg .sbbAxImm16,
   .plain .pushDs,
   .plain .popDs]

/-- First bytes 20 to 2F. -/
def formats2 : List Format :=
  [slashR8 .andRm8R8,
   slashR16 .andRm16R16,
   slashR8 fun m r => .andR8Rm8 r m,
   slashR16 fun m r => .andR16Rm16 r m,
   .byteArg .andAlImm8,
   .wordArg .andAxImm16,
   .plain .overrideEs,
   .plain .daa,
   slashR8 .subRm8R8,
   slashR16 .subRm16R16,
   slashR8 fun m r => .subR8Rm8 r m,
   slashR16 fun m r => .subR16Rm16 r m,
   .byteArg .subAlImm8,
   .wordArg .subAxImm16,
   .plain .overrideCs,
   .plain .das]

/-- First bytes 30 to 3F. -/
def formats3 : List Format :=
  [slashR8 .xorRm8R8,
   slashR16 .xorRm16R16,
   slashR8 fun m r => .xorR8Rm8 r m,
   slashR16 fun m r => .xorR16Rm16 r m,
   .byteArg .xorAlImm8,
   .wordArg .xorAxImm16,
   .plain .overrideSs,
   .plain .aaa,
   slashR8 .cmpRm8R8,
   slashR16 .cmpRm16R16,
   slashR8 fun m r => .cmpR8Rm8 r m,
   slashR16 fun m r => .cmpR16Rm16 r m,
   .byteArg .cmpAlImm8,
   .wordArg .cmpAxImm16,
   .plain .overrideDs,
   .plain .aas]

/-- First bytes 40 to 4F. -/
def formats4 : List Format :=
  [.plain (.incR16 .ax),
   .plain (.incR16 .cx),
   .plain (.incR16 .dx),
   .plain (.incR16 .bx),
   .plain (.incR16 .sp),
   .plain (.incR16 .bp),
   .plain (.incR16 .si),
   .plain (.incR16 .di),
   .plain (.decR16 .ax),
   .plain (.decR16 .cx),
   .plain (.decR16 .dx),
   .plain (.decR16 .bx),
   .plain (.decR16 .sp),
   .plain (.decR16 .bp),
   .plain (.decR16 .si),
   .plain (.decR16 .di)]

/-- First bytes 50 to 5F. -/
def formats5 : List Format :=
  [.plain (.pushR16 .ax),
   .plain (.pushR16 .cx),
   .plain (.pushR16 .dx),
   .plain (.pushR16 .bx),
   .plain (.pushR16 .sp),
   .plain (.pushR16 .bp),
   .plain (.pushR16 .si),
   .plain (.pushR16 .di),
   .plain (.popR16 .ax),
   .plain (.popR16 .cx),
   .plain (.popR16 .dx),
   .plain (.popR16 .bx),
   .plain (.popR16 .sp),
   .plain (.popR16 .bp),
   .plain (.popR16 .si),
   .plain (.popR16 .di)]

/-- First bytes 60 to 6F. -/
def formats6 : List Format :=
  [.undefined,
   .undefined,
   .undefined,
   .undefined,
   .undefined,
   .undefined,
   .undefined,
   .undefined,
   .undefined,
   .undefined,
   .undefined,
   .undefined,
   .undefined,
   .undefined,
   .undefined,
   .undefined]

/-- First bytes 70 to 7F. -/
def formats7 : List Format :=
  [.byteArg .jo,
   .byteArg .jno,
   .byteArg .jb,
   .byteArg .jae,
   .byteArg .je,
   .byteArg .jne,
   .byteArg .jbe,
   .byteArg .ja,
   .byteArg .js,
   .byteArg .jns,
   .byteArg .jp,
   .byteArg .jnp,
   .byteArg .jl,
   .byteArg .jge,
   .byteArg .jle,
   .byteArg .jg]

/-- First bytes 80 to 8F. -/
def formats8 : List Format :=
  [.postbyte (digits [.rm8Imm8 .addRm8Imm8, .rm8Imm8 .orRm8Imm8, .rm8Imm8 .adcRm8Imm8, .rm8Imm8 .sbbRm8Imm8,
      .rm8Imm8 .andRm8Imm8, .rm8Imm8 .subRm8Imm8, .rm8Imm8 .xorRm8Imm8, .rm8Imm8 .cmpRm8Imm8]),
   .postbyte (digits [.rm16Imm16 .addRm16Imm16, .rm16Imm16 .orRm16Imm16, .rm16Imm16 .adcRm16Imm16, .rm16Imm16
      .sbbRm16Imm16, .rm16Imm16 .andRm16Imm16, .rm16Imm16 .subRm16Imm16, .rm16Imm16 .xorRm16Imm16, .rm16Imm16
      .cmpRm16Imm16]),
   .postbyte (digits [.rm8Imm8 .addRm8Imm8Alt, noDigit, .rm8Imm8 .adcRm8Imm8Alt, .rm8Imm8 .sbbRm8Imm8Alt, noDigit,
      .rm8Imm8 .subRm8Imm8Alt, noDigit, .rm8Imm8 .cmpRm8Imm8Alt]),
   .postbyte (digits [.rm16Imm8 .addRm16SImm8, noDigit, .rm16Imm8 .adcRm16SImm8, .rm16Imm8 .sbbRm16SImm8, noDigit,
      .rm16Imm8 .subRm16SImm8, noDigit, .rm16Imm8 .cmpRm16SImm8]),
   slashR8 .testRm8R8,
   slashR16 .testRm16R16,
   slashR8 fun m r => .xchgR8Rm8 r m,
   slashR16 fun m r => .xchgR16Rm16 r m,
   slashR8 .movRm8R8,
   slashR16 .movRm16R16,
   slashR8 fun m r => .movR8Rm8 r m,
   slashR16 fun m r => .movR16Rm16 r m,
   .postbyte slashSeg,
   slashMem .lea,
   .postbyte slashSegTo,
   .postbyte (digits [.rm16 .popRm16])]

/-- First bytes 90 to 9F. -/
def formats9 : List Format :=
  [.plain .nop,
   .plain .xchgAxCx,
   .plain .xchgAxDx,
   .plain .xchgAxBx,
   .plain .xchgAxSp,
   .plain .xchgAxBp,
   .plain .xchgAxSi,
   .plain .xchgAxDi,
   .plain .cbw,
   .plain .cwd,
   .farArg .callFar,
   .plain .wait,
   .plain .pushf,
   .plain .popf,
   .plain .sahf,
   .plain .lahf]

/-- First bytes A0 to AF. -/
def formatsA : List Format :=
  [.wordArg .movAlAddr,
   .wordArg .movAxAddr,
   .wordArg .movAddrAl,
   .wordArg .movAddrAx,
   .plain .movsb,
   .plain .movsw,
   .plain .cmpsb,
   .plain .cmpsw,
   .byteArg .testAlImm8,
   .wordArg .testAxImm16,
   .plain .stosb,
   .plain .stosw,
   .plain .lodsb,
   .plain .lodsw,
   .plain .scasb,
   .plain .scasw]

/-- First bytes B0 to BF. -/
def formatsB : List Format :=
  [.byteArg (.movR8Imm8 .al),
   .byteArg (.movR8Imm8 .cl),
   .byteArg (.movR8Imm8 .dl),
   .byteArg (.movR8Imm8 .bl),
   .byteArg (.movR8Imm8 .ah),
   .byteArg (.movR8Imm8 .ch),
   .byteArg (.movR8Imm8 .dh),
   .byteArg (.movR8Imm8 .bh),
   .wordArg (.movR16Imm16 .ax),
   .wordArg (.movR16Imm16 .cx),
   .wordArg (.movR16Imm16 .dx),
   .wordArg (.movR16Imm16 .bx),
   .wordArg (.movR16Imm16 .sp),
   .wordArg (.movR16Imm16 .bp),
   .wordArg (.movR16Imm16 .si),
   .wordArg (.movR16Imm16 .di)]

/-- First bytes C0 to CF. -/
def formatsC : List Format :=
  [.undefined,
   .undefined,
   .wordArg .retNearN,
   .plain .retNear,
   slashMem .les,
   slashMem .lds,
   .postbyte (digits [.rm8Imm8 .movRm8Imm8]),
   .postbyte (digits [.rm16Imm16 .movRm16Imm16]),
   .undefined,
   .undefined,
   .wordArg .retFarN,
   .plain .retFar,
   .plain .int3,
   .byteArg .intN,
   .plain .into,
   .plain .iret]

/-- First bytes D0 to DF. -/
def formatsD : List Format :=
  [shiftDigits8 .rolRm8One .rorRm8One .rclRm8One .rcrRm8One .shlRm8One .shrRm8One .sarRm8One,
   shiftDigits16 .rolRm16One .rorRm16One .rclRm16One .rcrRm16One .shlRm16One .shrRm16One .sarRm16One,
   shiftDigits8 .rolRm8Cl .rorRm8Cl .rclRm8Cl .rcrRm8Cl .shlRm8Cl .shrRm8Cl .sarRm8Cl,
   shiftDigits16 .rolRm16Cl .rorRm16Cl .rclRm16Cl .rcrRm16Cl .shlRm16Cl .shrRm16Cl .sarRm16Cl,
   .adjust .aam,
   .adjust .aad,
   .undefined,
   .plain .xlat,
   .postbyte fun e => .rm16 (.esc 0 e),
   .postbyte fun e => .rm16 (.esc 1 e),
   .postbyte fun e => .rm16 (.esc 2 e),
   .postbyte fun e => .rm16 (.esc 3 e),
   .postbyte fun e => .rm16 (.esc 4 e),
   .postbyte fun e => .rm16 (.esc 5 e),
   .postbyte fun e => .rm16 (.esc 6 e),
   .postbyte fun e => .rm16 (.esc 7 e)]

/-- First bytes E0 to EF. -/
def formatsE : List Format :=
  [.byteArg .loopne,
   .byteArg .loope,
   .byteArg .loop,
   .byteArg .jcxz,
   .byteArg .inAlPort,
   .byteArg .inAxPort,
   .byteArg .outPortAl,
   .byteArg .outPortAx,
   .wordArg .callNear,
   .wordArg .jmpNear,
   .farArg .jmpFar,
   .byteArg .jmpShort,
   .plain .inAlDx,
   .plain .inAxDx,
   .plain .outDxAl,
   .plain .outDxAx]

/-- First bytes F0 to FF. -/
def formatsF : List Format :=
  [.plain .lockPrefix,
   .undefined,
   .plain .repne,
   .plain .rep,
   .plain .hlt,
   .plain .cmc,
   .postbyte (digits [.rm8Imm8 .testRm8Imm8, noDigit, .rm8 .notRm8, .rm8 .negRm8, .rm8 .mulRm8, .rm8 .imulRm8, .rm8
      .divRm8, .rm8 .idivRm8]),
   .postbyte (digits [.rm16Imm16 .testRm16Imm16, noDigit, .rm16 .notRm16, .rm16 .negRm16, .rm16 .mulRm16, .rm16
      .imulRm16, .rm16 .divRm16, .rm16 .idivRm16]),
   .plain .clc,
   .plain .stc,
   .plain .cli,
   .plain .sti,
   .plain .cld,
   .plain .std,
   .postbyte (digits [.rm8 .incRm8, .rm8 .decRm8]),
   .postbyte (digits [.rm16 .incRm16, .rm16 .decRm16, .rm16 .callRm16, .mem .callMem, .rm16 .jmpRm16, .mem .jmpMem,
      .rm16 .pushRm16])]

/-- The opcode map (R120): the format of every first byte. -/
def formats : List Format :=
  formats0 ++ formats1 ++ formats2 ++ formats3 ++ formats4 ++ formats5 ++ formats6 ++ formats7 ++
  formats8 ++ formats9 ++ formatsA ++ formatsB ++ formatsC ++ formatsD ++ formatsE ++ formatsF

/-- Decoding: the first instruction of the bytes and the bytes after it, or the reason there is none. -/
def decode : List Byte → Except Reject (Instr × List Byte)
  | [] => .error .truncated
  | b :: rest => (formats.getD b.toNat .undefined).decode rest

/-! ## The encoder -/

/-- A word as two bytes, the low byte first (R61, R113). -/
def wordBytes (w : Word) : List Byte := [lowByte w, highByte w]

/-- The postbyte and displacement of a memory operand (R107 to R112). -/
def Mem.bytes (reg : BitVec 3) : Mem → List Byte
  | .direct d => postbyte 0 reg 6 :: wordBytes d
  | .base b => [postbyte 0 reg b.code]
  | .disp8 b d => [postbyte 1 reg b.code, d]
  | .disp16 b d => postbyte 2 reg b.code :: wordBytes d

/-- The postbyte and displacement of a byte operand. -/
def Rm8.bytes (reg : BitVec 3) : Rm8 → List Byte
  | .reg r => [postbyte 3 reg r.code]
  | .mem m => m.bytes reg

/-- The postbyte and displacement of a word operand. -/
def Rm16.bytes (reg : BitVec 3) : Rm16 → List Byte
  | .reg r => [postbyte 3 reg r.code]
  | .mem m => m.bytes reg

/-- A first byte with a register code in its low three bits (R105). -/
def withReg (base : Byte) (code : BitVec 3) : Byte := base + code.setWidth 8

/-- The bytes of an instruction, in the order of R111. -/
def encode : Instr → List Byte
  | .addRm8R8 m r => 0x00 :: m.bytes r.code
  | .addRm16R16 m r => 0x01 :: m.bytes r.code
  | .addR8Rm8 r m => 0x02 :: m.bytes r.code
  | .addR16Rm16 r m => 0x03 :: m.bytes r.code
  | .addAlImm8 v => [0x04, v]
  | .addAxImm16 v => 0x05 :: wordBytes v
  | .orRm8R8 m r => 0x08 :: m.bytes r.code
  | .orRm16R16 m r => 0x09 :: m.bytes r.code
  | .orR8Rm8 r m => 0x0A :: m.bytes r.code
  | .orR16Rm16 r m => 0x0B :: m.bytes r.code
  | .orAlImm8 v => [0x0C, v]
  | .orAxImm16 v => 0x0D :: wordBytes v
  | .adcRm8R8 m r => 0x10 :: m.bytes r.code
  | .adcRm16R16 m r => 0x11 :: m.bytes r.code
  | .adcR8Rm8 r m => 0x12 :: m.bytes r.code
  | .adcR16Rm16 r m => 0x13 :: m.bytes r.code
  | .adcAlImm8 v => [0x14, v]
  | .adcAxImm16 v => 0x15 :: wordBytes v
  | .sbbRm8R8 m r => 0x18 :: m.bytes r.code
  | .sbbRm16R16 m r => 0x19 :: m.bytes r.code
  | .sbbR8Rm8 r m => 0x1A :: m.bytes r.code
  | .sbbR16Rm16 r m => 0x1B :: m.bytes r.code
  | .sbbAlImm8 v => [0x1C, v]
  | .sbbAxImm16 v => 0x1D :: wordBytes v
  | .andRm8R8 m r => 0x20 :: m.bytes r.code
  | .andRm16R16 m r => 0x21 :: m.bytes r.code
  | .andR8Rm8 r m => 0x22 :: m.bytes r.code
  | .andR16Rm16 r m => 0x23 :: m.bytes r.code
  | .andAlImm8 v => [0x24, v]
  | .andAxImm16 v => 0x25 :: wordBytes v
  | .subRm8R8 m r => 0x28 :: m.bytes r.code
  | .subRm16R16 m r => 0x29 :: m.bytes r.code
  | .subR8Rm8 r m => 0x2A :: m.bytes r.code
  | .subR16Rm16 r m => 0x2B :: m.bytes r.code
  | .subAlImm8 v => [0x2C, v]
  | .subAxImm16 v => 0x2D :: wordBytes v
  | .xorRm8R8 m r => 0x30 :: m.bytes r.code
  | .xorRm16R16 m r => 0x31 :: m.bytes r.code
  | .xorR8Rm8 r m => 0x32 :: m.bytes r.code
  | .xorR16Rm16 r m => 0x33 :: m.bytes r.code
  | .xorAlImm8 v => [0x34, v]
  | .xorAxImm16 v => 0x35 :: wordBytes v
  | .cmpRm8R8 m r => 0x38 :: m.bytes r.code
  | .cmpRm16R16 m r => 0x39 :: m.bytes r.code
  | .cmpR8Rm8 r m => 0x3A :: m.bytes r.code
  | .cmpR16Rm16 r m => 0x3B :: m.bytes r.code
  | .cmpAlImm8 v => [0x3C, v]
  | .cmpAxImm16 v => 0x3D :: wordBytes v
  | .incR16 r => [withReg 0x40 r.code]
  | .decR16 r => [withReg 0x48 r.code]
  | .pushR16 r => [withReg 0x50 r.code]
  | .popR16 r => [withReg 0x58 r.code]
  | .jo v => [0x70, v]
  | .jno v => [0x71, v]
  | .jb v => [0x72, v]
  | .jae v => [0x73, v]
  | .je v => [0x74, v]
  | .jne v => [0x75, v]
  | .jbe v => [0x76, v]
  | .ja v => [0x77, v]
  | .js v => [0x78, v]
  | .jns v => [0x79, v]
  | .jp v => [0x7A, v]
  | .jnp v => [0x7B, v]
  | .jl v => [0x7C, v]
  | .jge v => [0x7D, v]
  | .jle v => [0x7E, v]
  | .jg v => [0x7F, v]
  | .addRm8Imm8 m v => 0x80 :: (m.bytes 0 ++ [v])
  | .addRm16Imm16 m v => 0x81 :: (m.bytes 0 ++ wordBytes v)
  | .addRm8Imm8Alt m v => 0x82 :: (m.bytes 0 ++ [v])
  | .addRm16SImm8 m v => 0x83 :: (m.bytes 0 ++ [v])
  | .orRm8Imm8 m v => 0x80 :: (m.bytes 1 ++ [v])
  | .orRm16Imm16 m v => 0x81 :: (m.bytes 1 ++ wordBytes v)
  | .adcRm8Imm8 m v => 0x80 :: (m.bytes 2 ++ [v])
  | .adcRm16Imm16 m v => 0x81 :: (m.bytes 2 ++ wordBytes v)
  | .adcRm8Imm8Alt m v => 0x82 :: (m.bytes 2 ++ [v])
  | .adcRm16SImm8 m v => 0x83 :: (m.bytes 2 ++ [v])
  | .sbbRm8Imm8 m v => 0x80 :: (m.bytes 3 ++ [v])
  | .sbbRm16Imm16 m v => 0x81 :: (m.bytes 3 ++ wordBytes v)
  | .sbbRm8Imm8Alt m v => 0x82 :: (m.bytes 3 ++ [v])
  | .sbbRm16SImm8 m v => 0x83 :: (m.bytes 3 ++ [v])
  | .andRm8Imm8 m v => 0x80 :: (m.bytes 4 ++ [v])
  | .andRm16Imm16 m v => 0x81 :: (m.bytes 4 ++ wordBytes v)
  | .subRm8Imm8 m v => 0x80 :: (m.bytes 5 ++ [v])
  | .subRm16Imm16 m v => 0x81 :: (m.bytes 5 ++ wordBytes v)
  | .subRm8Imm8Alt m v => 0x82 :: (m.bytes 5 ++ [v])
  | .subRm16SImm8 m v => 0x83 :: (m.bytes 5 ++ [v])
  | .xorRm8Imm8 m v => 0x80 :: (m.bytes 6 ++ [v])
  | .xorRm16Imm16 m v => 0x81 :: (m.bytes 6 ++ wordBytes v)
  | .cmpRm8Imm8 m v => 0x80 :: (m.bytes 7 ++ [v])
  | .cmpRm16Imm16 m v => 0x81 :: (m.bytes 7 ++ wordBytes v)
  | .cmpRm8Imm8Alt m v => 0x82 :: (m.bytes 7 ++ [v])
  | .cmpRm16SImm8 m v => 0x83 :: (m.bytes 7 ++ [v])
  | .testRm8R8 m r => 0x84 :: m.bytes r.code
  | .testRm16R16 m r => 0x85 :: m.bytes r.code
  | .xchgR8Rm8 r m => 0x86 :: m.bytes r.code
  | .xchgR16Rm16 r m => 0x87 :: m.bytes r.code
  | .movRm8R8 m r => 0x88 :: m.bytes r.code
  | .movRm16R16 m r => 0x89 :: m.bytes r.code
  | .movR8Rm8 r m => 0x8A :: m.bytes r.code
  | .movR16Rm16 r m => 0x8B :: m.bytes r.code
  | .movRm16Sreg m r => 0x8C :: m.bytes r.code
  | .lea r m => 0x8D :: m.bytes r.code
  | .movEsRm16 m => 0x8E :: m.bytes 0
  | .movSsRm16 m => 0x8E :: m.bytes 2
  | .movDsRm16 m => 0x8E :: m.bytes 3
  | .popRm16 m => 0x8F :: m.bytes 0
  | .callFar off seg => 0x9A :: (wordBytes off ++ wordBytes seg)
  | .movAlAddr v => 0xA0 :: wordBytes v
  | .movAxAddr v => 0xA1 :: wordBytes v
  | .movAddrAl v => 0xA2 :: wordBytes v
  | .movAddrAx v => 0xA3 :: wordBytes v
  | .testAlImm8 v => [0xA8, v]
  | .testAxImm16 v => 0xA9 :: wordBytes v
  | .movR8Imm8 r v => [withReg 0xB0 r.code, v]
  | .movR16Imm16 r v => withReg 0xB8 r.code :: wordBytes v
  | .retNearN v => 0xC2 :: wordBytes v
  | .les r m => 0xC4 :: m.bytes r.code
  | .lds r m => 0xC5 :: m.bytes r.code
  | .movRm8Imm8 m v => 0xC6 :: (m.bytes 0 ++ [v])
  | .movRm16Imm16 m v => 0xC7 :: (m.bytes 0 ++ wordBytes v)
  | .retFarN v => 0xCA :: wordBytes v
  | .intN v => [0xCD, v]
  | .rolRm8One m => 0xD0 :: m.bytes 0
  | .rorRm8One m => 0xD0 :: m.bytes 1
  | .rclRm8One m => 0xD0 :: m.bytes 2
  | .rcrRm8One m => 0xD0 :: m.bytes 3
  | .shlRm8One m => 0xD0 :: m.bytes 4
  | .shrRm8One m => 0xD0 :: m.bytes 5
  | .sarRm8One m => 0xD0 :: m.bytes 7
  | .rolRm16One m => 0xD1 :: m.bytes 0
  | .rorRm16One m => 0xD1 :: m.bytes 1
  | .rclRm16One m => 0xD1 :: m.bytes 2
  | .rcrRm16One m => 0xD1 :: m.bytes 3
  | .shlRm16One m => 0xD1 :: m.bytes 4
  | .shrRm16One m => 0xD1 :: m.bytes 5
  | .sarRm16One m => 0xD1 :: m.bytes 7
  | .rolRm8Cl m => 0xD2 :: m.bytes 0
  | .rorRm8Cl m => 0xD2 :: m.bytes 1
  | .rclRm8Cl m => 0xD2 :: m.bytes 2
  | .rcrRm8Cl m => 0xD2 :: m.bytes 3
  | .shlRm8Cl m => 0xD2 :: m.bytes 4
  | .shrRm8Cl m => 0xD2 :: m.bytes 5
  | .sarRm8Cl m => 0xD2 :: m.bytes 7
  | .rolRm16Cl m => 0xD3 :: m.bytes 0
  | .rorRm16Cl m => 0xD3 :: m.bytes 1
  | .rclRm16Cl m => 0xD3 :: m.bytes 2
  | .rcrRm16Cl m => 0xD3 :: m.bytes 3
  | .shlRm16Cl m => 0xD3 :: m.bytes 4
  | .shrRm16Cl m => 0xD3 :: m.bytes 5
  | .sarRm16Cl m => 0xD3 :: m.bytes 7
  | .esc hi lo m => withReg 0xD8 hi :: m.bytes lo
  | .loopne v => [0xE0, v]
  | .loope v => [0xE1, v]
  | .loop v => [0xE2, v]
  | .jcxz v => [0xE3, v]
  | .inAlPort v => [0xE4, v]
  | .inAxPort v => [0xE5, v]
  | .outPortAl v => [0xE6, v]
  | .outPortAx v => [0xE7, v]
  | .callNear v => 0xE8 :: wordBytes v
  | .jmpNear v => 0xE9 :: wordBytes v
  | .jmpFar off seg => 0xEA :: (wordBytes off ++ wordBytes seg)
  | .jmpShort v => [0xEB, v]
  | .testRm8Imm8 m v => 0xF6 :: (m.bytes 0 ++ [v])
  | .notRm8 m => 0xF6 :: m.bytes 2
  | .negRm8 m => 0xF6 :: m.bytes 3
  | .mulRm8 m => 0xF6 :: m.bytes 4
  | .imulRm8 m => 0xF6 :: m.bytes 5
  | .divRm8 m => 0xF6 :: m.bytes 6
  | .idivRm8 m => 0xF6 :: m.bytes 7
  | .testRm16Imm16 m v => 0xF7 :: (m.bytes 0 ++ wordBytes v)
  | .notRm16 m => 0xF7 :: m.bytes 2
  | .negRm16 m => 0xF7 :: m.bytes 3
  | .mulRm16 m => 0xF7 :: m.bytes 4
  | .imulRm16 m => 0xF7 :: m.bytes 5
  | .divRm16 m => 0xF7 :: m.bytes 6
  | .idivRm16 m => 0xF7 :: m.bytes 7
  | .incRm8 m => 0xFE :: m.bytes 0
  | .decRm8 m => 0xFE :: m.bytes 1
  | .incRm16 m => 0xFF :: m.bytes 0
  | .decRm16 m => 0xFF :: m.bytes 1
  | .callRm16 m => 0xFF :: m.bytes 2
  | .callMem m => 0xFF :: m.bytes 3
  | .jmpRm16 m => 0xFF :: m.bytes 4
  | .jmpMem m => 0xFF :: m.bytes 5
  | .pushRm16 m => 0xFF :: m.bytes 6
  | .pushEs => [0x06]
  | .popEs => [0x07]
  | .overrideEs => [0x26]
  | .pushCs => [0x0E]
  | .overrideCs => [0x2E]
  | .pushSs => [0x16]
  | .popSs => [0x17]
  | .overrideSs => [0x36]
  | .pushDs => [0x1E]
  | .popDs => [0x1F]
  | .overrideDs => [0x3E]
  | .daa => [0x27]
  | .das => [0x2F]
  | .aaa => [0x37]
  | .aas => [0x3F]
  | .nop => [0x90]
  | .xchgAxCx => [0x91]
  | .xchgAxDx => [0x92]
  | .xchgAxBx => [0x93]
  | .xchgAxSp => [0x94]
  | .xchgAxBp => [0x95]
  | .xchgAxSi => [0x96]
  | .xchgAxDi => [0x97]
  | .cbw => [0x98]
  | .cwd => [0x99]
  | .wait => [0x9B]
  | .pushf => [0x9C]
  | .popf => [0x9D]
  | .sahf => [0x9E]
  | .lahf => [0x9F]
  | .movsb => [0xA4]
  | .movsw => [0xA5]
  | .cmpsb => [0xA6]
  | .cmpsw => [0xA7]
  | .stosb => [0xAA]
  | .stosw => [0xAB]
  | .lodsb => [0xAC]
  | .lodsw => [0xAD]
  | .scasb => [0xAE]
  | .scasw => [0xAF]
  | .retNear => [0xC3]
  | .retFar => [0xCB]
  | .int3 => [0xCC]
  | .into => [0xCE]
  | .iret => [0xCF]
  | .aam => [0xD4, 0x0A]
  | .aad => [0xD5, 0x0A]
  | .xlat => [0xD7]
  | .inAlDx => [0xEC]
  | .inAxDx => [0xED]
  | .outDxAl => [0xEE]
  | .outDxAx => [0xEF]
  | .lockPrefix => [0xF0]
  | .repne => [0xF2]
  | .rep => [0xF3]
  | .hlt => [0xF4]
  | .cmc => [0xF5]
  | .clc => [0xF8]
  | .stc => [0xF9]
  | .cli => [0xFA]
  | .sti => [0xFB]
  | .cld => [0xFC]
  | .std => [0xFD]

/-! ## The numbering of the opcode table (assumption log 24) -/

/-- The six bytes of an instruction whose bits are `w`. The table numbers the first two bytes as one 16-bit number with the
first byte in its high half (R130); further pairs of bytes would count on from bit 16. A single byte is bits 7 to 0. Every
bit from `nbits` on is 0. -/
def tableBytes (nbits w : Nat) : List Byte :=
  let bits := w % 2 ^ nbits
  if nbits ≤ 8 then BitVec.ofNat 8 bits :: List.replicate 5 0
  else (List.range 3).flatMap fun k => [BitVec.ofNat 8 (bits / 2 ^ (16 * k + 8)), BitVec.ofNat 8 (bits / 2 ^ (16 * k))]

/-- What the decoder reads from the bits of an opcode-table row. -/
def decodeTableWord (nbits w : Nat) : Option Instr :=
  match decode (tableBytes nbits w) with
  | .ok (i, _) => some i
  | .error _ => none

end Sys2Proof
end

