-- ==== Sys2Proof/Config.lean ====
section
/-!
DEFINITION. The parameters of the spec (spec/00_scope.md R7) and the free values (R14, `draw`). The parameters that belong to
the chip or the board as a value are named arguments, which the state carries and no step changes (`Parameters`); those that
choose between outcomes are opaque constants, so that no proof can see them.
-/
namespace Sys2Proof.Config

/-- The two pin configurations of the chip (R381). -/
inductive PinConfiguration where
  | minimum
  | maximum
deriving DecidableEq, Repr

/-- The named arguments of the model (R7, R14). -/
structure Parameters where
  /-- CONFIG: the level on MN/MX; it decides only whether the LOCK output exists (R381). -/
  configuration : PinConfiguration
  /-- QUEUE_LEN: bytes in the instruction queue (R50). -/
  queueLen : Nat
  /-- PF_EVEN: the value of PF for an even number of ones in the low byte (R35, 90_conflicts.md C5). -/
  pfEven : Bool
deriving DecidableEq, Repr

/-- The defaults of R7 (assumption log 5, 6, 14). -/
def Parameters.default : Parameters := { configuration := .maximum, queueLen := 6, pfEven := true }

/-- What a byte of memory that nothing has written reads as (R55: unspecified at power-up).
DESIGN CHOICE, unsafe: assumption log 2. -/
def unlistedByte : Byte := 0

/-- WORD_AT_FFFF (R72): whether a word or a double word that crosses offset FFFFh goes on at offset 0000h of the segment (true)
or at the next physical address (false). The source does not say; left free (assumption log 7), safe. -/
opaque wordAtFFFFWraps : Bool

/-- The three kinds of request that INT_SHADOW may hold off (R364). -/
inductive Request where
  | nmi
  | intr
  | singleStep
deriving DecidableEq, Repr

/-- INT_SHADOW (R364, R353, R411): which requests are not recognised at the boundary after STI, MOV sreg and POP sreg.
All false is the value `none`; left free (assumption log 8), safe. -/
opaque shadowHides : Request → Bool

/-- IDIV_MIN = `either` (R203): whether the n-th draw makes IDIV treat the quotient -2^(N-1) as a divide error.
Left free (assumption log 9), safe. -/
opaque idivMinFaults : Nat → Bool

/-- `draw(1)` (R14): the n-th free bit (assumption log 4), safe. -/
opaque freeBit : Nat → Bool

/-- `draw(16)` (R14): the n-th free word (assumption log 4), safe. -/
opaque freeWord : Nat → Word

/-- The byte an input port gives (R85: supplied by the environment; assumption log 10), safe. The two numbers, those of the draws
and of the bus cycles recorded, are never the same at two accesses. -/
opaque portInput : Nat → Nat → Word → Byte

/-- The byte a device in the memory space gives (R352, R76: supplied by the environment; assumption log 3), safe. The two numbers
are those of `portInput`. -/
opaque deviceInput : Nat → Nat → PhysAddr → Byte

/-- How far the bus interface runs ahead of the instruction that the n-th draw belongs to (R50, R92; assumption log 14), safe. -/
opaque fetchAhead : Nat → Nat

end Sys2Proof.Config
end

