-- ==== Sys2Proof/Machine/State.lean ====
section
/-!
DEFINITION. The machine's state as plain data: every piece of state the spec gives the processor (spec/10_state.md),
memory (R49) and the platform's address map (R76, R78), the inputs the environment drives (R51, R352), the instruction queue
(R50, R92), and the model's own bookkeeping of free values, bus cycles and instruction boundaries. `State.reset` is R55.
-/
namespace Sys2Proof.Machine

/-- The eight general registers AX, BX, CX, DX, SP, BP, SI, DI (R20). -/
structure Regs where
  ax : Word
  bx : Word
  cx : Word
  dx : Word
  sp : Word
  bp : Word
  si : Word
  di : Word
deriving DecidableEq, Repr

/-- The nine flags (R30); `ifl` is IF. The other bits of the flag register hold no state (R33). -/
structure Flags where
  cf : Bool
  pf : Bool
  af : Bool
  zf : Bool
  sf : Bool
  tf : Bool
  ifl : Bool
  df : Bool
  of : Bool
deriving DecidableEq, Repr

/-- The repeat prefix bytes: F3h (REP, REPE, REPZ) and F2h (REPNE, REPNZ) (R117). -/
inductive RepeatPrefix where
  | repe
  | repne
deriving DecidableEq, Repr

/-- The prefix state of the instruction to come (R52). -/
structure Prefixes where
  /-- `seg_override`. -/
  seg : Option SReg
  /-- `rep`. -/
  rep : Option RepeatPrefix
  /-- `lock`. -/
  lock : Bool
deriving DecidableEq, Repr

/-- The inputs, set by the environment between two steps (R51, R352; assumption log 12). -/
structure Pins where
  /-- `nmi_pending`: a pulse on NMI was latched and not yet taken. -/
  nmiPending : Bool
  /-- The NMI pulses to come inside a step (R352: "at any time"): one entry for each coming interrupt sequence, whether a pulse
  is latched while it runs. A sequence uses up its entry; with none left no pulse comes. -/
  nmiDuring : List Bool
  /-- `intr_level`: the level of INTR. -/
  intrLevel : Bool
  /-- The type byte the device gives in the acknowledge sequence (R355). -/
  intrType : Byte
  /-- `test_level`: the level of TEST; low (false) is active. -/
  testLevel : Bool
  /-- CLR is active at the start of the step (R400). -/
  clr : Bool
  /-- CLR becomes active inside the step (R400, R352: "at any time"). -/
  clrInside : Bool
deriving DecidableEq, Repr

/-- What stands at a physical address of the platform (R76, R78). -/
inductive AddressKind where
  /-- Plain memory: a read gives the value last written. -/
  | memory
  /-- A device in the memory space: the environment supplies what is read and takes what is written. -/
  | device
  /-- Nothing: no device answers. -/
  | absent
deriving DecidableEq, Repr

/-- A stretch of physical addresses of one kind: `size` addresses from `base` on. -/
structure Region where
  base : Nat
  size : Nat
  kind : AddressKind
deriving DecidableEq, Repr

/-- Which way a bus cycle moves its data (R382). -/
inductive Direction where
  | read
  | write
deriving DecidableEq, Repr

/-- The kinds of bus cycle of R382: an instruction fetch, a memory cycle (memory or a device in its space), a port cycle, an
interrupt acknowledge. -/
inductive BusTarget where
  | fetch (a : PhysAddr)
  | memory (a : PhysAddr)
  | port (p : Word)
  | acknowledge
deriving DecidableEq, Repr

/-- What a bus cycle moves: a byte, a word (R75, R417), or, in the first acknowledge cycle, nothing (R355). -/
inductive BusData where
  | byte (v : Byte)
  | word (v : Word)
  | nothing
deriving DecidableEq, Repr

/-- One bus cycle (R75, R86, R382). -/
structure BusCycle where
  direction : Direction
  target : BusTarget
  data : BusData
  /-- The LOCK output during the cycle (R89). -/
  lock : Bool
deriving DecidableEq, Repr

/-- Memory: (physical address, byte) pairs, addresses rising, no entry equal to what an unlisted byte reads as. -/
abbrev Memory := List Host.Cell

/-- The state of the machine. -/
structure State where
  /-- The general registers (R20). -/
  regs : Regs
  /-- The flags (R30). -/
  flags : Flags
  /-- The segment registers (R25). -/
  es : Word
  cs : Word
  ss : Word
  ds : Word
  /-- The instruction pointer: between steps the offset of the next instruction byte, inside a meaning the offset of the
  byte after the instruction (R27). -/
  ip : Word
  /-- Memory (R49). -/
  mem : Memory
  /-- The halt state (R53). -/
  halted : Bool
  /-- The inputs (R51). -/
  pins : Pins
  /-- Prefix state (R52). -/
  pfx : Prefixes
  /-- The repeated string instruction between two elements, or the WAIT between two tests (R302, R304, R328, R365). -/
  inProgress : Option Instr
  /-- The offset of the first byte (prefixes included) of the instruction being executed (R304, R328). -/
  start : Word
  /-- The instruction just run was STI, MOV sreg or POP sreg (R364): the model's own, true only inside a step. -/
  shadow : Bool
  /-- The instruction just run entered an interrupt itself (R353): the model's own, true only inside a step. -/
  raised : Bool
  /-- The instruction queue as a program can observe it: code bytes that were overwritten after they may have been fetched,
  with the values they had, oldest first (R50, R92; assumption log 14). -/
  queue : List Host.Cell
  /-- How many code bytes from CS:IP on the instruction queue holds: at most QUEUE_LEN (R50, R92; assumption log 14). -/
  ahead : Nat
  /-- What stands at each physical address, a parameter of the platform (R76, R78): the first region that holds the address
  decides, and an address in no region is plain memory (assumption log 3). No step changes it. -/
  platform : List Region
  /-- The named arguments of the model: CONFIG, QUEUE_LEN, PF_EVEN (R7). No step changes them. -/
  params : Config.Parameters
  /-- The bus cycles made so far except instruction fetches, newest first (R86, R382, R417): the model's own (assumption
  log 10). -/
  bus : List BusCycle
  /-- The instruction fetch cycles made so far, newest first (R50, R382): the model's own. They are apart from `bus` because the
  bus interface makes them at any time between the data cycles (R86; assumption log 10). -/
  fetches : List BusCycle
  /-- How many free values have been drawn (R14): the model's own (assumption log 4). -/
  draws : Nat
deriving DecidableEq, Repr

/-- The faults: none. The processor has no condition that stops it (R363, R65); a divide error is an interrupt. Safe. -/
inductive Fault where
deriving DecidableEq, Repr

/-- Why the model gives a step no meaning. Each is the spec's own `refuse` (R13, R14), and safe: the run stops. -/
inductive Refusal where
  /-- An instruction whose meaning is not written (raised by an arm of `exec`; no arm does). Safe. -/
  | notModelled (mnemonic : String)
  /-- Raised by `step`: the bytes at CS:IP are no instruction (R126, R124). Safe. -/
  | undefinedEncoding (reason : Reject)
  /-- Raised by a prefix after a prefix of the same kind (R119). Safe. -/
  | duplicatePrefix
  /-- Raised by `step`: a repeat prefix before an instruction that is not a string instruction (R119, R302). Safe. -/
  | repeatBeforeNonString
  /-- Raised by IN and OUT of a word at port FFFFh (R81, R168, R169). Safe. -/
  | wordPortFFFF
  /-- Raised by `step`: an interrupt between two elements of a repeated string instruction that carries a second prefix
  (R304, R119). Safe. -/
  | interruptedWithTwoPrefixes
  /-- Raised by `step`: a bus cycle at an address where no device answers (R78). Safe. -/
  | noDevice
  /-- Raised by `step`: a byte of the instruction to run lies outside plain memory (R76). Safe. -/
  | fetchOutsideMemory
deriving DecidableEq, Repr

/-- What one instruction or one step answers. -/
abbrev Result := Host.Outcome State Fault Refusal

/-- No prefix in force (R52). -/
def Prefixes.none : Prefixes := { seg := Option.none, rep := Option.none, lock := false }

/-- The machine right after reset (R55), with nothing in memory. The eight general registers, the inputs and the model's
own counters have no value in the spec: they are DESIGN CHOICE values (assumption log 1, 2, 3, 4, 10, 23), and the parameters are
at the defaults of R7 (log 5, 6, 14). -/
def State.reset : State where
  regs := { ax := 0, bx := 0, cx := 0, dx := 0, sp := 0, bp := 0, si := 0, di := 0 }
  flags := { cf := false, pf := false, af := false, zf := false, sf := false, tf := false, ifl := false, df := false,
             of := false }
  es := 0
  cs := 0xFFFF
  ss := 0
  ds := 0
  ip := 0
  mem := []
  halted := false
  pins := { nmiPending := false, nmiDuring := [], intrLevel := false, intrType := 0, testLevel := false, clr := false
            clrInside := false }
  pfx := Prefixes.none
  inProgress := none
  start := 0
  shadow := false
  raised := false
  queue := []
  ahead := 0
  platform := []
  params := Config.Parameters.default
  bus := []
  fetches := []
  draws := 0

end Sys2Proof.Machine
end

