-- ==== Sys2Proof/Machine/Memory.lean ====
section
/-!
DEFINITION. Memory as sorted cells: reading one byte, writing one byte, the canonical form, and physical addresses
(R49, R60, R63, R72).
-/
namespace Sys2Proof.Machine

/-- The byte at physical address `a` (R49); an unlisted byte reads as `Config.unlistedByte` (assumption log 2). -/
def Memory.read : Memory → Nat → Byte
  | [], _ => Config.unlistedByte
  | (k, v) :: rest, a => if k = a then v else Memory.read rest a

/-- Memory with the byte at `a` set to `v`, in canonical form. -/
def Memory.write : Memory → Nat → Byte → Memory
  | [], a, v => if v = Config.unlistedByte then [] else [(a, v)]
  | (k, w) :: rest, a, v =>
    if a < k then
      if v = Config.unlistedByte then (k, w) :: rest else (a, v) :: (k, w) :: rest
    else if a = k then
      if v = Config.unlistedByte then rest else (a, v) :: rest
    else (k, w) :: Memory.write rest a v

/-- The canonical form from address `lo` on: addresses strictly rising, below 2^20, no entry that is the unlisted byte. -/
def Memory.wfFrom : Nat → Memory → Bool
  | _, [] => true
  | lo, (k, v) :: rest =>
    decide (lo ≤ k) && decide (k < 2 ^ 20) && decide (v ≠ Config.unlistedByte) && Memory.wfFrom (k + 1) rest

/-- The canonical form of memory. -/
def Memory.wf (m : Memory) : Bool := Memory.wfFrom 0 m

/-- `PA(seg, off)`: segment * 16 + offset, modulo 2^20 (R63). -/
def physAddr (seg off : Word) : PhysAddr := (seg.setWidth 20 <<< 4) + off.setWidth 20

/-- What stands at address `a`: the first region that holds it decides (R76, R78; assumption log 3). -/
def addressKind : List Region → Nat → AddressKind
  | [], _ => .memory
  | r :: rest, a => if r.base ≤ a ∧ a < r.base + r.size then r.kind else addressKind rest a

/-- Where the high byte of the word at `seg:off` lies: the next offset of the segment (R12, R60). At offset FFFFh the spec
names two places and does not choose (R72); the choice is free (assumption log 7). -/
def highAddr (seg off : Word) : PhysAddr :=
  if off = 0xFFFF then
    if Config.wordAtFFFFWraps then physAddr seg 0 else physAddr seg off + 1
  else physAddr seg (off + 1)

/-- The segment value through which the second word of the double word at `seg:off` is read, at offset `off + 2` (R73, R151).
A double word at offset FFFEh or FFFFh crosses the end of the segment: R72 leaves open, as for a word, whether the second word
lies in the same segment or at the next physical addresses, that is 64K further (assumption log 7). -/
def secondSegment (seg off : Word) : Word :=
  if off = 0xFFFE ∨ off = 0xFFFF then
    if Config.wordAtFFFFWraps then seg else seg + 0x1000
  else seg

end Sys2Proof.Machine
end

