-- ==== Sys2Proof/Machine/Ops.lean ====
section
/-!
DEFINITION. The named operations over registers, the bus, memory, the stack, ports, free values and control: every meaning goes
through these. Entering an interrupt (R356) and returning from one (R289) stand at the end.
-/
namespace Sys2Proof.Machine

/-! ## Registers (R20, R21, R106) -/

/-- The word register `r`. -/
def Regs.get16 (g : Regs) : Reg16 → Word
  | .ax => g.ax
  | .cx => g.cx
  | .dx => g.dx
  | .bx => g.bx
  | .sp => g.sp
  | .bp => g.bp
  | .si => g.si
  | .di => g.di

/-- The registers with word register `r` set to `v`. -/
def Regs.set16 (g : Regs) (r : Reg16) (v : Word) : Regs :=
  match r with
  | .ax => { g with ax := v }
  | .cx => { g with cx := v }
  | .dx => { g with dx := v }
  | .bx => { g with bx := v }
  | .sp => { g with sp := v }
  | .bp => { g with bp := v }
  | .si => { g with si := v }
  | .di => { g with di := v }

/-- The byte register `r`: a half of AX, CX, DX or BX (R21). -/
def Regs.get8 (g : Regs) : Reg8 → Byte
  | .al => lowByte g.ax
  | .cl => lowByte g.cx
  | .dl => lowByte g.dx
  | .bl => lowByte g.bx
  | .ah => highByte g.ax
  | .ch => highByte g.cx
  | .dh => highByte g.dx
  | .bh => highByte g.bx

/-- The registers with byte register `r` set to `v`; the other half of the word register stays (R21). -/
def Regs.set8 (g : Regs) (r : Reg8) (v : Byte) : Regs :=
  match r with
  | .al => { g with ax := withLow g.ax v }
  | .cl => { g with cx := withLow g.cx v }
  | .dl => { g with dx := withLow g.dx v }
  | .bl => { g with bx := withLow g.bx v }
  | .ah => { g with ax := withHigh g.ax v }
  | .ch => { g with cx := withHigh g.cx v }
  | .dh => { g with dx := withHigh g.dx v }
  | .bh => { g with bx := withHigh g.bx v }

/-- Read a word register (R24). -/
def State.reg16 (s : State) (r : Reg16) : Word := s.regs.get16 r

/-- Read a byte register (R24). -/
def State.reg8 (s : State) (r : Reg8) : Byte := s.regs.get8 r

/-- Write a word register (R24). -/
def State.setReg16 (s : State) (r : Reg16) (v : Word) : State := { s with regs := s.regs.set16 r v }

/-- Write a byte register (R24). -/
def State.setReg8 (s : State) (r : Reg8) (v : Byte) : State := { s with regs := s.regs.set8 r v }

/-- Read a segment register (R25). -/
def State.sreg (s : State) : SReg → Word
  | .es => s.es
  | .cs => s.cs
  | .ss => s.ss
  | .ds => s.ds

/-- Write a segment register (R25). -/
def State.setSreg (s : State) (r : SReg) (v : Word) : State :=
  match r with
  | .es => { s with es := v }
  | .cs => { s with cs := v }
  | .ss => { s with ss := v }
  | .ds => { s with ds := v }

/-- Load a segment register by MOV or POP: the boundary after it is special (R364, R145, R165). -/
def State.loadSreg (s : State) (r : SReg) (v : Word) : State := { s.setSreg r v with shadow := true }

/-- Write the flags. -/
def State.setFlags (s : State) (f : Flags) : State := { s with flags := f }

/-! ## Free values (R14, R37; assumption log 4) -/

/-- The k-th free bit of the instruction being executed. -/
def State.drawBit (s : State) (k : Nat) : Bool := Config.freeBit (s.draws + k)

/-- The k-th free word of the instruction being executed. -/
def State.drawWord (s : State) (k : Nat) : Word := Config.freeWord (s.draws + k)

/-- `n` draws are used up: the next evaluation draws new ones (R14). -/
def State.drawn (s : State) (n : Nat) : State := { s with draws := s.draws + n }

/-! ## The bus (R75, R86, R89, R382, R417; assumption log 10) -/

/-- Between two elements of a repeated string instruction: an interrupt window (R302, R304). -/
def State.betweenElements (s : State) : Bool := s.pfx.rep.isSome && s.inProgress.isSome

/-- The LOCK output: active from the prefix to the end of its instruction, in each element of a repeated one and released at
its interrupt windows, in the maximum configuration only (R89, R329, R380, R381; 92_eei_decisions.md D38). -/
def State.lockOutput (s : State) : Bool :=
  s.pfx.lock && !s.betweenElements && s.params.configuration == .maximum

/-- The bus cycles `cs`, newest first, have been made. -/
def State.onBus (s : State) (cs : List BusCycle) : State := { s with bus := cs ++ s.bus }

/-- The one bus cycle of a byte in memory (R75). -/
def State.byteCycles (s : State) (d : Direction) (a : PhysAddr) (v : Byte) : List BusCycle :=
  [{ direction := d, target := .memory a, data := .byte v, lock := s.lockOutput }]

/-- The bus cycles of the word at `seg:off`, newest first: one at an even address, two at an odd one, low byte first
(R72, R417). -/
def State.wordCycles (s : State) (d : Direction) (seg off v : Word) : List BusCycle :=
  if off.getLsbD 0 then s.byteCycles d (highAddr seg off) (highByte v) ++ s.byteCycles d (physAddr seg off) (lowByte v)
  else [{ direction := d, target := .memory (physAddr seg off), data := .word v, lock := s.lockOutput }]

/-- The bus cycles of a byte at a port (R81, R417). -/
def State.portCycles8 (s : State) (d : Direction) (port : Word) (v : Byte) : List BusCycle :=
  [{ direction := d, target := .port port, data := .byte v, lock := s.lockOutput }]

/-- The bus cycles of a word at a port, newest first: one at an even port, two at an odd one, low byte first (R81, R417). -/
def State.portCycles16 (s : State) (d : Direction) (port v : Word) : List BusCycle :=
  if port.getLsbD 0 then s.portCycles8 d (port + 1) (highByte v) ++ s.portCycles8 d port (lowByte v)
  else [{ direction := d, target := .port port, data := .word v, lock := s.lockOutput }]

/-! ## Memory (R12, R60, R63, R76, R92)

A read has two halves: the value read (`readByte`, `readWord`) and the state after the bus cycle (`noteReadByte`,
`noteReadWord`). A store is one operation. -/

/-- What stands at a physical address (R76, R78). -/
def State.kindAt (s : State) (a : PhysAddr) : AddressKind := addressKind s.platform a.toNat

/-- The address holds plain memory (R76). -/
def State.isMemory (s : State) (a : PhysAddr) : Bool := s.kindAt a == .memory

/-- The byte that memory holds at a physical address. -/
def State.memoryByte (s : State) (a : PhysAddr) : Byte := s.mem.read a.toNat

/-- Whether the physical address holds one of the next QUEUE_LEN code bytes: the window W of R92. -/
def State.inWindow (s : State) (a : Nat) : Bool :=
  (List.range s.params.queueLen).any fun k => (physAddr s.cs (s.ip + BitVec.ofNat 16 k)).toNat == a

/-- The byte a read at a physical address gives: the value last written, where there is plain memory (R76); what the
environment supplies, where there is a device (R352; assumption log 3). -/
def State.readPhys (s : State) (a : PhysAddr) : Byte :=
  if s.isMemory a then s.memoryByte a else Config.deviceInput s.draws s.bus.length a

/-- Store a byte at a physical address of plain memory; a device takes it and memory stays (R76). If the byte is one of the
next code bytes, the queue may still hold the byte it had (R92). -/
def State.writePhys (s : State) (a : PhysAddr) (v : Byte) : State :=
  { s with
    mem := if s.isMemory a then s.mem.write a.toNat v else s.mem
    queue := if s.isMemory a && s.inWindow a.toNat then s.queue ++ [(a.toNat, s.memoryByte a)] else s.queue }

/-- The value of `LRead(seg, off, 1)` (R12). -/
def State.readByte (s : State) (seg off : Word) : Byte := s.readPhys (physAddr seg off)

/-- `LRead(seg, off, 1)` has been made. -/
def State.noteReadByte (s : State) (seg off : Word) : State :=
  s.onBus (s.byteCycles .read (physAddr seg off) (s.readByte seg off))

/-- The value of `LRead(seg, off, 2)`: low byte at `off` (R12, R60, R72). -/
def State.readWord (s : State) (seg off : Word) : Word :=
  wordOf (s.readPhys (physAddr seg off)) (s.readPhys (highAddr seg off))

/-- `LRead(seg, off, 2)` has been made. -/
def State.noteReadWord (s : State) (seg off : Word) : State :=
  s.onBus (s.wordCycles .read seg off (s.readWord seg off))

/-- `LWrite(seg, off, 1, v)` (R12). -/
def State.writeByte (s : State) (seg off : Word) (v : Byte) : State :=
  (s.writePhys (physAddr seg off) v).onBus (s.byteCycles .write (physAddr seg off) v)

/-- `LWrite(seg, off, 2, v)`: low byte at `off`, stored first (R12, R60, R72, R417). -/
def State.writeWord (s : State) (seg off : Word) (v : Word) : State :=
  ((s.writePhys (physAddr seg off) (lowByte v)).writePhys (highAddr seg off) (highByte v)).onBus
    (s.wordCycles .write seg off v)

/-- The value of `MemRead(a, 2)` (R12): the word at a physical address. -/
def State.readPhysWord (s : State) (a : PhysAddr) : Word := wordOf (s.readPhys a) (s.readPhys (a + 1))

/-- `MemRead(a, 2)` at an even address has been made: one bus cycle (R75). -/
def State.noteReadPhysWord (s : State) (a : PhysAddr) : State :=
  s.onBus [{ direction := .read, target := .memory a, data := .word (s.readPhysWord a), lock := s.lockOutput }]

/-- `f` under the LOCK output, which is released after it: what XCHG with a memory operand does by itself (R89, R149). -/
def State.underLock (s : State) (f : State → State) : State :=
  { f { s with pfx := { s.pfx with lock := true } } with pfx := s.pfx }

/-! ## The stack (R79, R160, R161) -/

/-- The offset a push stores at: SP - 2 (R160). -/
def State.pushOffset (s : State) : Word := s.regs.sp - 2

/-- `Push(v)` (R160): always through SS. -/
def State.push (s : State) (v : Word) : State :=
  (s.setReg16 .sp s.pushOffset).writeWord s.ss s.pushOffset v

/-- The word read at the top of the stack (R79). -/
def State.top (s : State) : Word := s.readWord s.ss s.regs.sp

/-- The state after `Pop()`: the top of the stack read, then SP + 2 (R161). -/
def State.popped (s : State) : State := (s.noteReadWord s.ss s.regs.sp).setReg16 .sp (s.regs.sp + 2)

/-! ## Transfers of control (R13, R50, R92, R250) -/

/-- `pc <- target`: a taken transfer inside the code segment; it empties the queue (R250). -/
def State.jumpNear (s : State) (target : Word) : State := { s with ip := target, queue := [], ahead := 0 }

/-- `CS:pc <- seg:off`: a taken transfer to another segment; it empties the queue (R250). -/
def State.jumpFar (s : State) (seg off : Word) : State := { s with cs := seg, ip := off, queue := [], ahead := 0 }

/-- The target of a short transfer: the displacement added to the offset after the instruction (R71, R251). -/
def State.shortTarget (s : State) (rel : Byte) : Word := s.ip + sext16 rel

/-! ## Ports (R80, R81, R85; assumption log 10) -/

/-- A byte from an input port: whatever the environment gives. -/
def State.portIn8 (s : State) (port : Word) : Byte := Config.portInput s.draws s.bus.length port

/-- A word from an input port: low byte from `port`, high byte from `port + 1` (R81). -/
def State.portIn16 (s : State) (port : Word) : Word :=
  wordOf (Config.portInput s.draws s.bus.length port) (Config.portInput s.draws s.bus.length (port + 1))

/-- `PortRead(port, 1)` has been made. -/
def State.notePort8 (s : State) (port : Word) : State := s.onBus (s.portCycles8 .read port (s.portIn8 port))

/-- `PortRead(port, 2)` has been made. -/
def State.notePort16 (s : State) (port : Word) : State := s.onBus (s.portCycles16 .read port (s.portIn16 port))

/-- `PortWrite(port, 1, v)`: handed to the environment; no processor state changes (R85). -/
def State.portOut8 (s : State) (port : Word) (v : Byte) : State := s.onBus (s.portCycles8 .write port v)

/-- `PortWrite(port, 2, v)` (R85). -/
def State.portOut16 (s : State) (port : Word) (v : Word) : State := s.onBus (s.portCycles16 .write port v)

/-! ## The flag register as a word (R32, R33, R154, R155, R170, R171) -/

/-- The flag register read as a word; the seven bits that hold no flag come from `free` (R32, R33). -/
def Flags.image (f : Flags) (free : Word) : Word :=
  free.extractLsb' 12 4 ++ BitVec.ofBool f.of ++ BitVec.ofBool f.df ++ BitVec.ofBool f.ifl ++ BitVec.ofBool f.tf
    ++ BitVec.ofBool f.sf ++ BitVec.ofBool f.zf ++ free.extractLsb' 5 1 ++ BitVec.ofBool f.af
    ++ free.extractLsb' 3 1 ++ BitVec.ofBool f.pf ++ free.extractLsb' 1 1 ++ BitVec.ofBool f.cf

/-- The nine flags loaded from a word; its other bits are discarded (R171). -/
def Flags.ofImage (w : Word) : Flags where
  cf := w.getLsbD 0
  pf := w.getLsbD 2
  af := w.getLsbD 4
  zf := w.getLsbD 6
  sf := w.getLsbD 7
  tf := w.getLsbD 8
  ifl := w.getLsbD 9
  df := w.getLsbD 10
  of := w.getLsbD 11

/-- Push the flag register (R170): seven free bits are drawn. -/
def State.pushFlags (s : State) : State := (s.push (s.flags.image (s.drawWord 0))).drawn 1

/-! ## Interrupts (R353, R356, R357) -/

/-- The physical address of the pointer of type `t`: 4 * t (R357). -/
def vectorAddr (t : Byte) : PhysAddr := t.setWidth 20 <<< 2

/-- IF and TF cleared, the rest kept (R356). -/
def Flags.masked (f : Flags) : Flags := { f with ifl := false, tf := false }

/-- The frame of an interrupt: flags, CS and IP pushed, IF and TF cleared after the flag push (R356). -/
def State.pushFrame (s : State) : State :=
  let s1 := s.pushFlags
  ((s1.setFlags s1.flags.masked).push s.cs).push s.ip

/-- `Acknowledge()` (R355): two interrupt-acknowledge bus cycles, the type byte read in the second (PRESUMED, assumption
log 12). -/
def State.acknowledged (s : State) : State :=
  s.onBus [{ direction := .read, target := .acknowledge, data := .byte s.pins.intrType, lock := s.lockOutput },
           { direction := .read, target := .acknowledge, data := .nothing, lock := s.lockOutput }]

/-- The far jump through the pointer of type `t`: offset word first, then the segment word (R356, R357). It ends the halt
state (R327; assumption log 18). -/
def State.vectorJump (s : State) (t : Byte) : State :=
  let s1 := s.noteReadPhysWord (vectorAddr t)
  let s2 := s1.noteReadPhysWord (vectorAddr t + 2)
  { s2.jumpFar (s1.readPhysWord (vectorAddr t + 2)) (s.readPhysWord (vectorAddr t)) with halted := false }

/-- `InterruptSequence(t)` (R356): the frame, then the jump through the pointer of type `t`. -/
def State.interrupt (s : State) (t : Byte) : State := s.pushFrame.vectorJump t

/-- The prefixes end with their instruction (R52). -/
def State.endPrefixes (s : State) : State := { s with pfx := Prefixes.none }

/-- `raise Interrupt(t)` by an instruction (R13): the sequence after the instruction, and the note that the boundary needs
(R353). The prefixes end before the sequence, so a LOCK prefix does not lock its bus cycles: DEDUCED from R13 and R353,
assumption log 5. -/
def State.raise (s : State) (t : Byte) : State := { s.endPrefixes.interrupt t with raised := true }

/-- The return from an interrupt (R289): IP, CS and the nine flags from the stack. -/
def State.returnFromInterrupt (s : State) : State :=
  let s1 := s.popped
  let s2 := s1.popped
  ((s2.popped).setFlags (Flags.ofImage s2.top)).jumpFar s1.top s.top

end Sys2Proof.Machine
end

