-- ==== Sys2Proof/Machine/Fetch.lean ====
section
/-!
DEFINITION. Fetching an instruction's bytes at CS:IP (R27, R28, R63) through the instruction queue (R50, R92), and placing an
instruction where it is fetched.
-/
namespace Sys2Proof.Machine

/-- The byte fetched at physical address `a`: what memory holds, or, where it was `fetched` ahead and a free bit says so, what
the queue still holds from before a store (R92). `n` is the next free bit. -/
def fetchByteFrom (a : Nat) (current : Byte) (fetched : Bool) : Nat → List Host.Cell → Byte
  | _, [] => current
  | n, (k, v) :: rest =>
    if k = a ∧ fetched = true ∧ Config.freeBit n = true then v else fetchByteFrom a current fetched (n + 1) rest

/-- The physical address of the code byte `k` bytes after IP (R27, R28). -/
def State.codeAddr (s : State) (k : Nat) : PhysAddr := physAddr s.cs (s.ip + BitVec.ofNat 16 k)

/-- The code byte `k` bytes after IP as the execution unit gets it. -/
def State.fetchByte (s : State) (k : Nat) : Byte :=
  fetchByteFrom (s.codeAddr k).toNat (s.memoryByte (s.codeAddr k)) (k < s.ahead) (s.draws + k * s.queue.length) s.queue

/-- The places of the next six code bytes, as far as they lie in plain memory (R76): an instruction without prefixes has at
most six bytes (R111; assumption log 11). -/
def State.codePlaces (s : State) : List Nat := (List.range 6).takeWhile fun k => s.isMemory (s.codeAddr k)

/-- The code bytes at CS:IP as the execution unit gets them. -/
def State.fetchBytes (s : State) : List Byte := s.codePlaces.map s.fetchByte

/-- How many code bytes from IP on are fetched once an instruction of `n` bytes is taken from the queue: at least its own, and a
free number of bytes after it, at most QUEUE_LEN (R50, R92). -/
def State.fetchedTo (s : State) (n : Nat) : Nat :=
  max s.ahead (n + Config.fetchAhead s.draws % (s.params.queueLen + 1))

/-- The code bytes fetched for an instruction of `n` bytes: those not in the queue yet, as far as they lie in plain memory
(assumption log 14). -/
def State.newPlaces (s : State) (n : Nat) : List Nat :=
  ((List.range (s.fetchedTo n)).drop s.ahead).takeWhile fun k => s.isMemory (s.codeAddr k)

/-- The bus cycle that fetches code byte `k` alone (R382). -/
def State.fetchByteCycle (s : State) (k : Nat) : BusCycle :=
  { direction := .read, target := .fetch (s.codeAddr k), data := .byte (s.memoryByte (s.codeAddr k)), lock := s.lockOutput }

/-- The bus cycle that fetches the code bytes `k` and `j` of one aligned word (R75, R382). -/
def State.fetchWordCycle (s : State) (k j : Nat) : BusCycle :=
  { direction := .read, target := .fetch (s.codeAddr k)
    data := .word (wordOf (s.memoryByte (s.codeAddr k)) (s.memoryByte (s.codeAddr j))), lock := s.lockOutput }

/-- The bus cycles that fetch code bytes, oldest first: two bytes of a word at an even address in one cycle, any other byte in a
cycle of its own (R75). -/
def State.fetchCycles (s : State) : List Nat → List BusCycle
  | [] => []
  | [k] => [s.fetchByteCycle k]
  | k :: j :: rest =>
    if (s.codeAddr k).getLsbD 0 then s.fetchByteCycle k :: s.fetchCycles (j :: rest)
    else s.fetchWordCycle k j :: s.fetchCycles rest

/-- The state in which a decoded instruction of `n` bytes runs: IP after it (R27), `start` at the first prefix if there is
one (R304), the fetch cycles made and the queue filled behind it (R50), the free values of the fetch used up. -/
def State.begin (s : State) (n : Nat) : State :=
  { s with
    ip := s.ip + BitVec.ofNat 16 n
    start := if s.pfx = Prefixes.none then s.ip else s.start
    ahead := s.ahead + (s.newPlaces n).length - n
    fetches := (s.fetchCycles (s.newPlaces n)).reverse ++ s.fetches
    draws := s.draws + 6 * s.queue.length + 1 }

/-- Fetch and decode: the instruction at CS:IP and the state in which it runs. -/
def State.fetch (s : State) : Except Reject (Instr × State) :=
  match decode s.fetchBytes with
  | .ok (i, rest) => .ok (i, s.begin (s.codePlaces.length - rest.length))
  | .error e => .error e

/-- `bytes` stored from offset IP + `k` of the code segment on, the queue not looked at; each address is made plain memory. -/
def State.placeCode (s : State) : Nat → List Byte → State
  | _, [] => s
  | k, b :: rest =>
    State.placeCode
      { s with
        mem := s.mem.write (s.codeAddr k).toNat b
        platform := if s.isMemory (s.codeAddr k) then s.platform
                    else { base := (s.codeAddr k).toNat, size := 1, kind := .memory } :: s.platform }
      (k + 1) rest

end Sys2Proof.Machine
end

