-- ==== Sys2Proof/Machine/Boundary.lean ====
section
/-!
DEFINITION. What lies between two instructions: the recognition of interrupts (R353, R358, R364), the interrupt window inside a
repeated string instruction and WAIT (R304, R328, R365), the end of the prefixes (R52), the instruction queue (R92), reset by
CLR between steps and inside one (R400), and a bus cycle that nothing answers (R78).
-/
namespace Sys2Proof.Machine

/-! ## Recognition (R353) -/

/-- NMI is taken: the latch cleared, the sequence of type 2 (R354). -/
def State.takeNmi (s : State) : State := { s with pins := { s.pins with nmiPending := false } }.interrupt 2

/-- The sequence that ended uses up the head of the pulses to come: a pulse while it ran was latched (R352, R354). -/
def State.latchNmi (s : State) (pulse : Bool) (rest : List Bool) : State :=
  { s with pins := { s.pins with nmiPending := s.pins.nmiPending || pulse, nmiDuring := rest } }

/-- What follows an interrupt sequence, `Seq` of R353, the pulses to come being given: NMI is tested again, then the owed
single-step trap; a sequence of either is followed in the same way, with no trap owed. -/
def State.followSequence : List Bool → Bool → State → State
  | [], owed, s => if s.pins.nmiPending then s.takeNmi else if owed then s.interrupt 1 else s
  | pulse :: rest, owed, s =>
    let s1 := s.latchNmi pulse rest
    if s1.pins.nmiPending then State.followSequence rest false s1.takeNmi
    else if owed then State.followSequence rest false (s1.interrupt 1)
    else s1

/-- What follows an interrupt sequence (`Seq`, R353). -/
def State.afterSequence (s : State) (owed : Bool) : State := State.followSequence s.pins.nmiDuring owed s

/-- NMI latched and not held off by the instruction before (R354, R364). -/
def State.nmiSeen (s : State) : Bool := s.pins.nmiPending && !(s.shadow && Config.shadowHides .nmi)

/-- INTR at its level, enabled, and not held off (R355, R364). -/
def State.intrSeen (s : State) : Bool :=
  s.pins.intrLevel && s.flags.ifl && !(s.shadow && Config.shadowHides .intr)

/-- A single-step trap due and not held off (R360, R364). -/
def State.stepSeen (s : State) (tf0 : Bool) : Bool := tf0 && !(s.shadow && Config.shadowHides .singleStep)

/-- `Boundary(tf0)` (R353): at most one origin starts a sequence, in the order of R358. -/
def State.boundary (s : State) (tf0 : Bool) : State :=
  let s0 := { s with shadow := false, raised := false }
  if s.raised then s0.afterSequence tf0
  else if s.nmiSeen then s0.takeNmi.afterSequence tf0
  else if s.intrSeen then (s0.acknowledged.interrupt s0.pins.intrType).afterSequence tf0
  else if s.stepSeen tf0 then (s0.interrupt 1).afterSequence false
  else s0

/-! ## Around an instruction -/

/-- The ten string instructions (R119). -/
def isString : Instr → Bool
  | .movsb | .movsw | .cmpsb | .cmpsw | .stosb | .stosw | .lodsb | .lodsw | .scasb | .scasw => true
  | _ => false

/-- The seven prefix bytes (R116, R117, R118). -/
def isPrefix : Instr → Bool
  | .overrideEs | .overrideCs | .overrideSs | .overrideDs | .lockPrefix | .repne | .rep => true
  | _ => false

/-- A repeat prefix before an instruction it may not precede (R119). -/
def State.misplacedRepeat (s : State) (i : Instr) : Bool := s.pfx.rep.isSome && !isString i && !isPrefix i

/-- The queue keeps only what lies in the next code bytes (R92). -/
def State.trim (s : State) : State := { s with queue := s.queue.filter fun c => s.inWindow c.1 }

/-- More than one prefix on a repeated instruction (R304). -/
def State.twoPrefixes (s : State) : Bool := s.pfx.rep.isSome && (s.pfx.seg.isSome || s.pfx.lock)

/-- The interrupt window inside a repeated string instruction or WAIT (R304, R328, R365): a recognised interrupt leaves the
instruction with IP at its first byte; otherwise it stays in progress. With two prefixes the return would lose one, and the
interrupt is refused (R304), unless CLR cuts the step short before it is recognised (R400). -/
def State.window (s : State) (tf0 : Bool) : Result :=
  if s.nmiSeen || s.intrSeen || s.stepSeen tf0 then
    if s.twoPrefixes then if s.pins.clrInside then .next s.trim else .refused .interruptedWithTwoPrefixes
    else .next (({ s with ip := s.start, inProgress := none }.endPrefixes).boundary tf0).trim
  else .next s.trim

/-- From the answer of instruction `i`, begun with TF = `tf0`, to the next step (R353): no recognition after a prefix, the
window inside an instruction in progress, the boundary after a whole instruction. -/
def settle (i : Instr) (tf0 : Bool) : Result → Result
  | .next t =>
    if isPrefix i then .next t.trim
    else if t.inProgress.isSome then t.window tf0
    else .next ((t.endPrefixes).boundary tf0).trim
  | .fault f => .fault f
  | .refused r => .refused r

/-! ## Reset (R400) -/

/-- CLR active (R400, R55): every register, flag and hidden item at its reset value, the general registers free (R55; log
13); memory, the platform, the parameters, the records of bus cycles and the inputs other than the NMI latch stay. -/
def State.resetEvent (s : State) : State :=
  { State.reset with
    regs := { ax := s.drawWord 0, bx := s.drawWord 1, cx := s.drawWord 2, dx := s.drawWord 3,
              sp := s.drawWord 4, bp := s.drawWord 5, si := s.drawWord 6, di := s.drawWord 7 }
    mem := s.mem
    platform := s.platform
    params := s.params
    bus := s.bus
    fetches := s.fetches
    pins := { s.pins with nmiPending := false }
    draws := s.draws + 8 }

/-! ## The bus cycles of a step (R78, R400) -/

/-- The cycles a record gained from `old` to `new`, oldest first. -/
def gained (old new : List BusCycle) : List BusCycle := (new.take (new.length - old.length)).reverse

/-- The data bus cycles made between `s` and `t`, oldest first. -/
def State.newCycles (s t : State) : List BusCycle := gained s.bus t.bus

/-- The instruction fetch cycles made between `s` and `t`, oldest first. -/
def State.newFetches (s t : State) : List BusCycle := gained s.fetches t.fetches

/-- The addresses a bus cycle moves data at: a word cycle moves two bytes (R75). -/
def BusCycle.addresses (c : BusCycle) : List PhysAddr :=
  match c.target, c.data with
  | .memory a, .word _ => [a, a + 1]
  | .memory a, _ => [a]
  | _, _ => []

/-- Something answers in this bus cycle (R78). -/
def State.answered (s : State) (c : BusCycle) : Bool := c.addresses.all fun a => s.kindAt a != .absent

/-- A step that made a bus cycle which nothing answers is refused (R78). -/
def State.complete (s : State) : Result → Result
  | .next t => if (s.newCycles t).all s.answered then .next t else .refused .noDevice
  | .fault f => .fault f
  | .refused r => .refused r

/-- What a bus cycle stores, done on memory `m`. -/
def State.redo (s : State) (m : Memory) (c : BusCycle) : Memory :=
  let store (m : Memory) (a : PhysAddr) (v : Byte) : Memory := if s.isMemory a then m.write a.toNat v else m
  match c.direction, c.target, c.data with
  | .write, .memory a, .byte v => store m a v
  | .write, .memory a, .word v => store (store m a (lowByte v)) (a + 1) (highByte v)
  | _, _, _ => m

/-- Any subset of the bus cycles `cs`, in order: a free bit each, from the `n`-th on (R400; assumption log 13). -/
def someCycles : Nat → List BusCycle → List BusCycle
  | _, [] => []
  | n, c :: rest => if Config.freeBit n then c :: someCycles (n + 1) rest else someCycles (n + 1) rest

/-- CLR active inside the step that would have taken `s` to `t` (R400): any subset of its bus cycles, in order, happened, none
from the first that nothing answers on; then the reset. The draws go on, so what a device answered in a cycle that is no longer
recorded binds no later answer. -/
def State.abandoned (s t : State) : State :=
  let n := (s.newCycles t).length
  let made := someCycles t.draws ((s.newCycles t).takeWhile s.answered)
  { t with
    mem := made.foldl s.redo s.mem
    bus := made.reverse ++ s.bus
    fetches := (someCycles (t.draws + n) (s.newFetches t)).reverse ++ s.fetches
    draws := t.draws + n + (s.newFetches t).length }.resetEvent

/-- A step inside which CLR becomes active (R400). What the spec refuses before a bus cycle is made stays refused: it gives no
meaning to what was begun. -/
def State.abandon (s : State) : Result → Result
  | .next t => .next (s.abandoned t)
  | .fault f => .fault f
  | .refused r => .refused r

end Sys2Proof.Machine
end

