-- ==== Sys2Proof/Machine/Flags.lean ====
section
/-!
DEFINITION. The flag computations: parity (R35), addition (R44), subtraction (R45), logic (R46), undefined results (R37), at
either operand width.
-/
namespace Sys2Proof.Machine

/-- The number of one bits of a byte. -/
def onesOf (b : Byte) : Nat :=
  (b.getLsbD 0).toNat + (b.getLsbD 1).toNat + (b.getLsbD 2).toNat + (b.getLsbD 3).toNat
    + (b.getLsbD 4).toNat + (b.getLsbD 5).toNat + (b.getLsbD 6).toNat + (b.getLsbD 7).toNat

/-- `parity(b)`: PF_EVEN for an even number of ones, its opposite for an odd one (R35). -/
def parity (pfEven : Bool) (b : Byte) : Bool := if onesOf b % 2 = 0 then pfEven else !pfEven

/-- The flags with ZF, SF and PF from a result (R35, R38, R39). -/
def State.resultFlags {w : Nat} (s : State) (res : BitVec w) : Flags :=
  { s.flags with zf := decide (res = 0), sf := res.msb, pf := parity s.params.pfEven (res.setWidth 8) }

/-- A carry or borrow as an operand of the width. -/
def carryIn (w : Nat) (c : Bool) : BitVec w := BitVec.ofNat w c.toNat

/-- `AddFlags(a, b, c, N)` (R44). -/
def addFlags {w : Nat} (s : State) (a b : BitVec w) (c : Bool) : Flags :=
  let res := a + b + carryIn w c
  { s.resultFlags res with
    cf := decide (2 ^ w ≤ a.toNat + b.toNat + c.toNat)
    af := decide (16 ≤ a.toNat % 16 + b.toNat % 16 + c.toNat)
    of := (a.msb == b.msb) && (res.msb != a.msb) }

/-- `SubFlags(a, b, c, N)` (R45). -/
def subFlags {w : Nat} (s : State) (a b : BitVec w) (c : Bool) : Flags :=
  let res := a - b - carryIn w c
  { s.resultFlags res with
    cf := decide (a.toNat < b.toNat + c.toNat)
    af := decide (a.toNat % 16 < b.toNat % 16 + c.toNat)
    of := (a.msb != b.msb) && (res.msb != a.msb) }

/-- `LogicFlags(res, N)` (R46); `u` is the undefined AF. -/
def logicFlags {w : Nat} (s : State) (res : BitVec w) (u : Bool) : Flags :=
  { s.resultFlags res with cf := false, of := false, af := u }

/-- The flags after a multiplication: CF and OF as given, SF, ZF, AF, PF undefined (R198). -/
def mulFlags (s : State) (big : Bool) : Flags :=
  { s.flags with cf := big, of := big, sf := s.drawBit 0, zf := s.drawBit 1, af := s.drawBit 2, pf := s.drawBit 3 }

/-- The flags after a division: all six arithmetic flags undefined (R201). -/
def divFlags (s : State) : Flags :=
  { s.flags with
    of := s.drawBit 0, sf := s.drawBit 1, zf := s.drawBit 2, af := s.drawBit 3, pf := s.drawBit 4, cf := s.drawBit 5 }

end Sys2Proof.Machine
end

