-- ==== Sys2Proof/Machine/Operands.lean ====
section
/-!
DEFINITION. Operand forms: the effective address (R70, R71, R109), the segment of an access (R67, R68), and the place a
postbyte names (R108), read and written as a byte or as a word.
-/
namespace Sys2Proof.Machine

/-- `base_sum` of R109. -/
def State.baseSum (s : State) : EaBase → Word
  | .bxSi => s.regs.bx + s.regs.si
  | .bxDi => s.regs.bx + s.regs.di
  | .bpSi => s.regs.bp + s.regs.si
  | .bpDi => s.regs.bp + s.regs.di
  | .si => s.regs.si
  | .di => s.regs.di
  | .bp => s.regs.bp
  | .bx => s.regs.bx

/-- Whether the base sum uses BP (R109). -/
def usesBp : EaBase → Bool
  | .bpSi => true
  | .bpDi => true
  | .bp => true
  | .bxSi => false
  | .bxDi => false
  | .si => false
  | .di => false
  | .bx => false

/-- The effective address: a 16-bit sum, a one-byte displacement sign-extended (R70, R108). -/
def State.ea (s : State) : Mem → Word
  | .direct d => d
  | .base b => s.baseSum b
  | .disp8 b d => s.baseSum b + sext16 d
  | .disp16 b d => s.baseSum b + d

/-- The default segment of a base: SS if it uses BP, else DS (R67). -/
def baseSegment (b : EaBase) : SReg := if usesBp b then .ss else .ds

/-- The default segment of a memory operand (R67, R108). -/
def defaultSegment : Mem → SReg
  | .direct _ => .ds
  | .base b => baseSegment b
  | .disp8 b _ => baseSegment b
  | .disp16 b _ => baseSegment b

/-- The segment value of an access that allows an override, with its default (R67, R68). -/
def State.dataSegment (s : State) (dflt : SReg) : Word := s.sreg (s.pfx.seg.getD dflt)

/-- The segment value of a memory operand. -/
def State.memSegment (s : State) (m : Mem) : Word := s.dataSegment (defaultSegment m)

/-- The place of a byte operand: a register, or memory at segment and offset. -/
inductive Loc8 where
  | reg (r : Reg8)
  | mem (seg off : Word)
deriving DecidableEq, Repr

/-- The place of a word operand. -/
inductive Loc16 where
  | reg (r : Reg16)
  | mem (seg off : Word)
deriving DecidableEq, Repr

/-- The place a byte postbyte operand names (R108). -/
def State.loc8 (s : State) : Rm8 → Loc8
  | .reg r => .reg r
  | .mem m => .mem (s.memSegment m) (s.ea m)

/-- The place a word postbyte operand names (R108). -/
def State.loc16 (s : State) : Rm16 → Loc16
  | .reg r => .reg r
  | .mem m => .mem (s.memSegment m) (s.ea m)

/-- Read a byte place. -/
def State.get8 (s : State) : Loc8 → Byte
  | .reg r => s.reg8 r
  | .mem seg off => s.readByte seg off

/-- Read a word place. -/
def State.get16 (s : State) : Loc16 → Word
  | .reg r => s.reg16 r
  | .mem seg off => s.readWord seg off

/-- A byte place has been read: a bus cycle, if it is in memory. -/
def State.noteGet8 (s : State) : Loc8 → State
  | .reg _ => s
  | .mem seg off => s.noteReadByte seg off

/-- A word place has been read: its bus cycles, if it is in memory. -/
def State.noteGet16 (s : State) : Loc16 → State
  | .reg _ => s
  | .mem seg off => s.noteReadWord seg off

/-- Write a byte place. -/
def State.put8 (s : State) (l : Loc8) (v : Byte) : State :=
  match l with
  | .reg r => s.setReg8 r v
  | .mem seg off => s.writeByte seg off v

/-- Write a word place. -/
def State.put16 (s : State) (l : Loc16) (v : Word) : State :=
  match l with
  | .reg r => s.setReg16 r v
  | .mem seg off => s.writeWord seg off v

/-- The byte operand `rm`. -/
def State.rm8 (s : State) (m : Rm8) : Byte := s.get8 (s.loc8 m)

/-- The word operand `rm`. -/
def State.rm16 (s : State) (m : Rm16) : Word := s.get16 (s.loc16 m)

/-- The byte operand `rm` has been read. -/
def State.noteRm8 (s : State) (m : Rm8) : State := s.noteGet8 (s.loc8 m)

/-- The word operand `rm` has been read. -/
def State.noteRm16 (s : State) (m : Rm16) : State := s.noteGet16 (s.loc16 m)

/-- The first word of the double word at a memory operand: the offset of a far pointer (R61, R151). -/
def State.farOffset (s : State) (m : Mem) : Word := s.readWord (s.memSegment m) (s.ea m)

/-- The first word of a far pointer has been read. -/
def State.noteFarOffset (s : State) (m : Mem) : State := s.noteReadWord (s.memSegment m) (s.ea m)

/-- The second word, at EA + 2, read after the first: the segment of a far pointer (R61, R73, R151). Where the double word
crosses offset FFFFh its place is free between two (R72, `secondSegment`; DESIGN CHOICE, assumption log 7). -/
def State.farSegment (s : State) (m : Mem) : Word :=
  (s.noteFarOffset m).readWord (secondSegment (s.memSegment m) (s.ea m)) (s.ea m + 2)

/-- Both words of a far pointer have been read. -/
def State.noteFar (s : State) (m : Mem) : State :=
  (s.noteFarOffset m).noteReadWord (secondSegment (s.memSegment m) (s.ea m)) (s.ea m + 2)

end Sys2Proof.Machine
end

