-- ==== Sys2Proof/Machine/Alu.lean ====
section
/-!
DEFINITION. The shared operations of the arithmetic and logic instructions: a two-operand or one-operand computation at
either width, run at a place and written back (R181), or run for its flags alone (R189, R224).
-/
namespace Sys2Proof.Machine

/-- A computation on two operands: the result and the state with its flags written. -/
abbrev BinOp (w : Nat) := State → BitVec w → BitVec w → BitVec w × State

/-- A computation on one operand. -/
abbrev UnOp (w : Nat) := State → BitVec w → BitVec w × State

/-- Run `op` on the byte at `l` and `b`; the result goes to `l` (R181, R74). -/
def binary8 (op : BinOp 8) (l : Loc8) (b : Byte) (s : State) : Result :=
  let r := op (s.noteGet8 l) (s.get8 l) b
  .next (r.2.put8 l r.1)

/-- Run `op` on the word at `l` and `b`; the result goes to `l` (R181, R74). -/
def binary16 (op : BinOp 16) (l : Loc16) (b : Word) (s : State) : Result :=
  let r := op (s.noteGet16 l) (s.get16 l) b
  .next (r.2.put16 l r.1)

/-- Run `op` on the byte at `l` and `b` for its flags alone (R189, R224). -/
def flags8 (op : BinOp 8) (l : Loc8) (b : Byte) (s : State) : Result := .next (op (s.noteGet8 l) (s.get8 l) b).2

/-- Run `op` on the word at `l` and `b` for its flags alone (R189, R224). -/
def flags16 (op : BinOp 16) (l : Loc16) (b : Word) (s : State) : Result := .next (op (s.noteGet16 l) (s.get16 l) b).2

/-- Run `op` on the byte at `l`; the result goes to `l` (R74). -/
def unary8 (op : UnOp 8) (l : Loc8) (s : State) : Result :=
  let r := op (s.noteGet8 l) (s.get8 l)
  .next (r.2.put8 l r.1)

/-- Run `op` on the word at `l`; the result goes to `l` (R74). -/
def unary16 (op : UnOp 16) (l : Loc16) (s : State) : Result :=
  let r := op (s.noteGet16 l) (s.get16 l)
  .next (r.2.put16 l r.1)

/-- a + b (R182). -/
def addOp {w : Nat} : BinOp w := fun s a b => (a + b, s.setFlags (addFlags s a b false))

/-- a + b + CF (R183). -/
def adcOp {w : Nat} : BinOp w := fun s a b =>
  (a + b + carryIn w s.flags.cf, s.setFlags (addFlags s a b s.flags.cf))

/-- a - b (R185); for CMP, CMPS and SCAS only its flags (R189, R306, R307). -/
def subOp {w : Nat} : BinOp w := fun s a b => (a - b, s.setFlags (subFlags s a b false))

/-- a - b - CF (R186). -/
def sbbOp {w : Nat} : BinOp w := fun s a b =>
  (a - b - carryIn w s.flags.cf, s.setFlags (subFlags s a b s.flags.cf))

/-- A logic result with its flags; AF is undefined (R46). -/
def State.logic {w : Nat} (s : State) (res : BitVec w) : BitVec w × State :=
  (res, (s.setFlags (logicFlags s res (s.drawBit 0))).drawn 1)

/-- Bitwise conjunction (R221); for TEST only its flags (R224). -/
def andOp {w : Nat} : BinOp w := fun s a b => s.logic (a &&& b)

/-- Bitwise disjunction (R222). -/
def orOp {w : Nat} : BinOp w := fun s a b => s.logic (a ||| b)

/-- Bitwise sum modulo 2 (R223). -/
def xorOp {w : Nat} : BinOp w := fun s a b => s.logic (a ^^^ b)

/-- a + 1; CF is not written (R184). -/
def incOp {w : Nat} : UnOp w := fun s a =>
  (a + 1, s.setFlags { addFlags s a 1 false with cf := s.flags.cf })

/-- a - 1; CF is not written (R187). -/
def decOp {w : Nat} : UnOp w := fun s a =>
  (a - 1, s.setFlags { subFlags s a 1 false with cf := s.flags.cf })

/-- 0 - a (R188). -/
def negOp {w : Nat} : UnOp w := fun s a => (0 - a, s.setFlags (subFlags s 0 a false))

/-- The inversion of a; no flag is written (R225). -/
def notOp {w : Nat} : UnOp w := fun s a => (~~~a, s)

end Sys2Proof.Machine
end

