-- ==== Sys2Proof/Machine/Arithmetic.lean ====
section
/-!
DEFINITION. Addition, subtraction, comparison, change of sign and the conversions (R182 to R189, R204, R205).
-/
namespace Sys2Proof.Machine

/-- ADD r/m8, r8 (R182). -/
def execAddRm8R8 (m : Rm8) (r : Reg8) (s : State) : Result := binary8 addOp (s.loc8 m) (s.reg8 r) s

/-- ADD r/m16, r16 (R182). -/
def execAddRm16R16 (m : Rm16) (r : Reg16) (s : State) : Result := binary16 addOp (s.loc16 m) (s.reg16 r) s

/-- ADD r8, r/m8 (R182). -/
def execAddR8Rm8 (r : Reg8) (m : Rm8) (s : State) : Result := binary8 addOp (.reg r) (s.rm8 m) (s.noteRm8 m)

/-- ADD r16, r/m16 (R182). -/
def execAddR16Rm16 (r : Reg16) (m : Rm16) (s : State) : Result := binary16 addOp (.reg r) (s.rm16 m) (s.noteRm16 m)

/-- ADD AL, imm8 (R182). -/
def execAddAlImm8 (v : Byte) (s : State) : Result := binary8 addOp (.reg .al) v s

/-- ADD AX, imm16 (R182). -/
def execAddAxImm16 (v : Word) (s : State) : Result := binary16 addOp (.reg .ax) v s

/-- ADD r/m8, imm8 (R182). -/
def execAddRm8Imm8 (m : Rm8) (v : Byte) (s : State) : Result := binary8 addOp (s.loc8 m) v s

/-- ADD r/m16, imm16 (R182). -/
def execAddRm16Imm16 (m : Rm16) (v : Word) (s : State) : Result := binary16 addOp (s.loc16 m) v s

/-- ADD r/m8, imm8 (second code of 80) (R182). -/
def execAddRm8Imm8Alt (m : Rm8) (v : Byte) (s : State) : Result := binary8 addOp (s.loc8 m) v s

/-- ADD r/m16, sext imm8 (R182). -/
def execAddRm16SImm8 (m : Rm16) (v : Byte) (s : State) : Result := binary16 addOp (s.loc16 m) (sext16 v) s

/-- ADC r/m8, r8 (R183). -/
def execAdcRm8R8 (m : Rm8) (r : Reg8) (s : State) : Result := binary8 adcOp (s.loc8 m) (s.reg8 r) s

/-- ADC r/m16, r16 (R183). -/
def execAdcRm16R16 (m : Rm16) (r : Reg16) (s : State) : Result := binary16 adcOp (s.loc16 m) (s.reg16 r) s

/-- ADC r8, r/m8 (R183). -/
def execAdcR8Rm8 (r : Reg8) (m : Rm8) (s : State) : Result := binary8 adcOp (.reg r) (s.rm8 m) (s.noteRm8 m)

/-- ADC r16, r/m16 (R183). -/
def execAdcR16Rm16 (r : Reg16) (m : Rm16) (s : State) : Result := binary16 adcOp (.reg r) (s.rm16 m) (s.noteRm16 m)

/-- ADC AL, imm8 (R183). -/
def execAdcAlImm8 (v : Byte) (s : State) : Result := binary8 adcOp (.reg .al) v s

/-- ADC AX, imm16 (R183). -/
def execAdcAxImm16 (v : Word) (s : State) : Result := binary16 adcOp (.reg .ax) v s

/-- ADC r/m8, imm8 (R183). -/
def execAdcRm8Imm8 (m : Rm8) (v : Byte) (s : State) : Result := binary8 adcOp (s.loc8 m) v s

/-- ADC r/m16, imm16 (R183). -/
def execAdcRm16Imm16 (m : Rm16) (v : Word) (s : State) : Result := binary16 adcOp (s.loc16 m) v s

/-- ADC r/m8, imm8 (second code of 80) (R183). -/
def execAdcRm8Imm8Alt (m : Rm8) (v : Byte) (s : State) : Result := binary8 adcOp (s.loc8 m) v s

/-- ADC r/m16, sext imm8 (R183). -/
def execAdcRm16SImm8 (m : Rm16) (v : Byte) (s : State) : Result := binary16 adcOp (s.loc16 m) (sext16 v) s

/-- SUB r/m8, r8 (R185). -/
def execSubRm8R8 (m : Rm8) (r : Reg8) (s : State) : Result := binary8 subOp (s.loc8 m) (s.reg8 r) s

/-- SUB r/m16, r16 (R185). -/
def execSubRm16R16 (m : Rm16) (r : Reg16) (s : State) : Result := binary16 subOp (s.loc16 m) (s.reg16 r) s

/-- SUB r8, r/m8 (R185). -/
def execSubR8Rm8 (r : Reg8) (m : Rm8) (s : State) : Result := binary8 subOp (.reg r) (s.rm8 m) (s.noteRm8 m)

/-- SUB r16, r/m16 (R185). -/
def execSubR16Rm16 (r : Reg16) (m : Rm16) (s : State) : Result := binary16 subOp (.reg r) (s.rm16 m) (s.noteRm16 m)

/-- SUB AL, imm8 (R185). -/
def execSubAlImm8 (v : Byte) (s : State) : Result := binary8 subOp (.reg .al) v s

/-- SUB AX, imm16 (R185). -/
def execSubAxImm16 (v : Word) (s : State) : Result := binary16 subOp (.reg .ax) v s

/-- SUB r/m8, imm8 (R185). -/
def execSubRm8Imm8 (m : Rm8) (v : Byte) (s : State) : Result := binary8 subOp (s.loc8 m) v s

/-- SUB r/m16, imm16 (R185). -/
def execSubRm16Imm16 (m : Rm16) (v : Word) (s : State) : Result := binary16 subOp (s.loc16 m) v s

/-- SUB r/m8, imm8 (second code of 80) (R185). -/
def execSubRm8Imm8Alt (m : Rm8) (v : Byte) (s : State) : Result := binary8 subOp (s.loc8 m) v s

/-- SUB r/m16, sext imm8 (R185). -/
def execSubRm16SImm8 (m : Rm16) (v : Byte) (s : State) : Result := binary16 subOp (s.loc16 m) (sext16 v) s

/-- SBB r/m8, r8 (R186). -/
def execSbbRm8R8 (m : Rm8) (r : Reg8) (s : State) : Result := binary8 sbbOp (s.loc8 m) (s.reg8 r) s

/-- SBB r/m16, r16 (R186). -/
def execSbbRm16R16 (m : Rm16) (r : Reg16) (s : State) : Result := binary16 sbbOp (s.loc16 m) (s.reg16 r) s

/-- SBB r8, r/m8 (R186). -/
def execSbbR8Rm8 (r : Reg8) (m : Rm8) (s : State) : Result := binary8 sbbOp (.reg r) (s.rm8 m) (s.noteRm8 m)

/-- SBB r16, r/m16 (R186). -/
def execSbbR16Rm16 (r : Reg16) (m : Rm16) (s : State) : Result := binary16 sbbOp (.reg r) (s.rm16 m) (s.noteRm16 m)

/-- SBB AL, imm8 (R186). -/
def execSbbAlImm8 (v : Byte) (s : State) : Result := binary8 sbbOp (.reg .al) v s

/-- SBB AX, imm16 (R186). -/
def execSbbAxImm16 (v : Word) (s : State) : Result := binary16 sbbOp (.reg .ax) v s

/-- SBB r/m8, imm8 (R186). -/
def execSbbRm8Imm8 (m : Rm8) (v : Byte) (s : State) : Result := binary8 sbbOp (s.loc8 m) v s

/-- SBB r/m16, imm16 (R186). -/
def execSbbRm16Imm16 (m : Rm16) (v : Word) (s : State) : Result := binary16 sbbOp (s.loc16 m) v s

/-- SBB r/m8, imm8 (second code of 80) (R186). -/
def execSbbRm8Imm8Alt (m : Rm8) (v : Byte) (s : State) : Result := binary8 sbbOp (s.loc8 m) v s

/-- SBB r/m16, sext imm8 (R186). -/
def execSbbRm16SImm8 (m : Rm16) (v : Byte) (s : State) : Result := binary16 sbbOp (s.loc16 m) (sext16 v) s

/-- CMP r/m8, r8 (R189). -/
def execCmpRm8R8 (m : Rm8) (r : Reg8) (s : State) : Result := flags8 subOp (s.loc8 m) (s.reg8 r) s

/-- CMP r/m16, r16 (R189). -/
def execCmpRm16R16 (m : Rm16) (r : Reg16) (s : State) : Result := flags16 subOp (s.loc16 m) (s.reg16 r) s

/-- CMP r8, r/m8 (R189). -/
def execCmpR8Rm8 (r : Reg8) (m : Rm8) (s : State) : Result := flags8 subOp (.reg r) (s.rm8 m) (s.noteRm8 m)

/-- CMP r16, r/m16 (R189). -/
def execCmpR16Rm16 (r : Reg16) (m : Rm16) (s : State) : Result := flags16 subOp (.reg r) (s.rm16 m) (s.noteRm16 m)

/-- CMP AL, imm8 (R189). -/
def execCmpAlImm8 (v : Byte) (s : State) : Result := flags8 subOp (.reg .al) v s

/-- CMP AX, imm16 (R189). -/
def execCmpAxImm16 (v : Word) (s : State) : Result := flags16 subOp (.reg .ax) v s

/-- CMP r/m8, imm8 (R189). -/
def execCmpRm8Imm8 (m : Rm8) (v : Byte) (s : State) : Result := flags8 subOp (s.loc8 m) v s

/-- CMP r/m16, imm16 (R189). -/
def execCmpRm16Imm16 (m : Rm16) (v : Word) (s : State) : Result := flags16 subOp (s.loc16 m) v s

/-- CMP r/m8, imm8 (second code of 80) (R189). -/
def execCmpRm8Imm8Alt (m : Rm8) (v : Byte) (s : State) : Result := flags8 subOp (s.loc8 m) v s

/-- CMP r/m16, sext imm8 (R189). -/
def execCmpRm16SImm8 (m : Rm16) (v : Byte) (s : State) : Result := flags16 subOp (s.loc16 m) (sext16 v) s

/-- INC r16 (R184). -/
def execIncR16 (r : Reg16) (s : State) : Result := unary16 incOp (.reg r) s

/-- INC r/m8 (R184). -/
def execIncRm8 (m : Rm8) (s : State) : Result := unary8 incOp (s.loc8 m) s

/-- INC r/m16 (R184). -/
def execIncRm16 (m : Rm16) (s : State) : Result := unary16 incOp (s.loc16 m) s

/-- DEC r16 (R187). -/
def execDecR16 (r : Reg16) (s : State) : Result := unary16 decOp (.reg r) s

/-- DEC r/m8 (R187). -/
def execDecRm8 (m : Rm8) (s : State) : Result := unary8 decOp (s.loc8 m) s

/-- DEC r/m16 (R187). -/
def execDecRm16 (m : Rm16) (s : State) : Result := unary16 decOp (s.loc16 m) s

/-- NEG r/m8 (R188). -/
def execNegRm8 (m : Rm8) (s : State) : Result := unary8 negOp (s.loc8 m) s

/-- NEG r/m16 (R188). -/
def execNegRm16 (m : Rm16) (s : State) : Result := unary16 negOp (s.loc16 m) s

/-- CBW (R204). -/
def execCbw (s : State) : Result := .next (s.setReg16 .ax (sext16 (s.reg8 .al)))

/-- CWD (R205). -/
def execCwd (s : State) : Result := .next (s.setReg16 .dx (if s.regs.ax.msb then 0xFFFF else 0))

end Sys2Proof.Machine
end

