-- ==== Sys2Proof/Machine/Control.lean ====
section
/-!
DEFINITION. Transfers of control (R250 to R285): jumps, conditional jumps, loops, calls and returns. `s.ip` is the offset of
the byte after the instruction (R27).
-/
namespace Sys2Proof.Machine

/-- A conditional short jump (R256). -/
def jumpIf (c : Bool) (rel : Byte) (s : State) : Result :=
  .next (if c then s.jumpNear (s.shortTarget rel) else s)

/-- LOOP and its forms: CX is decremented and the jump taken while it is not 0 and `c` holds (R274 to R276). -/
def loopIf (c : Bool) (rel : Byte) (s : State) : Result :=
  jumpIf (s.regs.cx - 1 != 0 && c) rel (s.setReg16 .cx (s.regs.cx - 1))

/-- `SP <- SP + n` (R283, R285). -/
def State.dropped (s : State) (n : Word) : State := s.setReg16 .sp (s.regs.sp + n)

/-- JMP rel8 (short) (R251). -/
def execJmpShort (rel : Byte) (s : State) : Result := .next (s.jumpNear (s.shortTarget rel))

/-- JMP rel16 (near direct) (R252). -/
def execJmpNear (rel : Word) (s : State) : Result := .next (s.jumpNear (s.ip + rel))

/-- JMP r/m16 (near indirect) (R253). -/
def execJmpRm16 (m : Rm16) (s : State) : Result := .next ((s.noteRm16 m).jumpNear (s.rm16 m))

/-- JMP ptr16:16 (far direct) (R254). -/
def execJmpFar (off : Word) (seg : Word) (s : State) : Result := .next (s.jumpFar seg off)

/-- JMP m16:16 (far indirect) (R255). -/
def execJmpMem (m : Mem) (s : State) : Result := .next ((s.noteFar m).jumpFar (s.farSegment m) (s.farOffset m))

/-- JO rel8 (R257). -/
def execJo (rel : Byte) (s : State) : Result := jumpIf s.flags.of rel s

/-- JNO rel8 (R258). -/
def execJno (rel : Byte) (s : State) : Result := jumpIf (!s.flags.of) rel s

/-- JB/JNAE/JC rel8 (R259). -/
def execJb (rel : Byte) (s : State) : Result := jumpIf s.flags.cf rel s

/-- JAE/JNB/JNC rel8 (R260). -/
def execJae (rel : Byte) (s : State) : Result := jumpIf (!s.flags.cf) rel s

/-- JE/JZ rel8 (R261). -/
def execJe (rel : Byte) (s : State) : Result := jumpIf s.flags.zf rel s

/-- JNE/JNZ rel8 (R262). -/
def execJne (rel : Byte) (s : State) : Result := jumpIf (!s.flags.zf) rel s

/-- JBE/JNA rel8 (R263). -/
def execJbe (rel : Byte) (s : State) : Result := jumpIf (s.flags.cf || s.flags.zf) rel s

/-- JA/JNBE rel8 (R264). -/
def execJa (rel : Byte) (s : State) : Result := jumpIf (!s.flags.cf && !s.flags.zf) rel s

/-- JS rel8 (R265). -/
def execJs (rel : Byte) (s : State) : Result := jumpIf s.flags.sf rel s

/-- JNS rel8 (R266). -/
def execJns (rel : Byte) (s : State) : Result := jumpIf (!s.flags.sf) rel s

/-- JP/JPE rel8 (R267). -/
def execJp (rel : Byte) (s : State) : Result := jumpIf s.flags.pf rel s

/-- JNP/JPO rel8 (R268). -/
def execJnp (rel : Byte) (s : State) : Result := jumpIf (!s.flags.pf) rel s

/-- JL/JNGE rel8 (R269). -/
def execJl (rel : Byte) (s : State) : Result := jumpIf (s.flags.sf != s.flags.of) rel s

/-- JGE/JNL rel8 (R270). -/
def execJge (rel : Byte) (s : State) : Result := jumpIf (s.flags.sf == s.flags.of) rel s

/-- JLE/JNG rel8 (R271). -/
def execJle (rel : Byte) (s : State) : Result := jumpIf (s.flags.zf || s.flags.sf != s.flags.of) rel s

/-- JG/JNLE rel8 (R272). -/
def execJg (rel : Byte) (s : State) : Result := jumpIf (!s.flags.zf && s.flags.sf == s.flags.of) rel s

/-- JCXZ rel8 (R277). -/
def execJcxz (rel : Byte) (s : State) : Result := jumpIf (s.regs.cx == 0) rel s

/-- LOOP rel8 (R274). -/
def execLoop (rel : Byte) (s : State) : Result := loopIf true rel s

/-- LOOPE/LOOPZ rel8 (R275). -/
def execLoope (rel : Byte) (s : State) : Result := loopIf s.flags.zf rel s

/-- LOOPNE/LOOPNZ rel8 (R276). -/
def execLoopne (rel : Byte) (s : State) : Result := loopIf (!s.flags.zf) rel s

/-- CALL rel16 (near direct) (R278). -/
def execCallNear (rel : Word) (s : State) : Result := .next ((s.push s.ip).jumpNear (s.ip + rel))

/-- CALL r/m16 (near indirect) (R279). -/
def execCallRm16 (m : Rm16) (s : State) : Result := 
  .next (((s.noteRm16 m).push s.ip).jumpNear (s.rm16 m))

/-- CALL ptr16:16 (far direct) (R280). -/
def execCallFar (off : Word) (seg : Word) (s : State) : Result := .next (((s.push s.cs).push s.ip).jumpFar seg off)

/-- CALL m16:16 (far indirect) (R281). -/
def execCallMem (m : Mem) (s : State) : Result :=
  .next ((((s.noteFar m).push s.cs).push s.ip).jumpFar (s.farSegment m) (s.farOffset m))

/-- RET (near) (R282). -/
def execRetNear (s : State) : Result := .next (s.popped.jumpNear s.top)

/-- RET n16 (near) (R283). -/
def execRetNearN (n : Word) (s : State) : Result := .next ((s.popped.jumpNear s.top).dropped n)

/-- RET (far) (R284). -/
def execRetFar (s : State) : Result := .next (s.popped.popped.jumpFar s.popped.top s.top)

/-- RET n16 (far) (R285). -/
def execRetFarN (n : Word) (s : State) : Result := .next ((s.popped.popped.jumpFar s.popped.top s.top).dropped n)

end Sys2Proof.Machine
end

