-- ==== Sys2Proof/Machine/DataTransfer.lean ====
section
/-!
DEFINITION. Data transfer (R140 to R171): MOV, XCHG, XLAT, LEA, LDS, LES, LAHF, SAHF, the stack instructions, IN and OUT.
-/
namespace Sys2Proof.Machine

/-- Exchange AX with a word register (R150). -/
def exchangeAx (r : Reg16) (s : State) : Result :=
  .next ((s.setReg16 .ax (s.reg16 r)).setReg16 r (s.reg16 .ax))

/-- LDS and LES: both words are read before a register is written (R151, R152). -/
def loadPointer (q : SReg) (r : Reg16) (m : Mem) (s : State) : Result :=
  .next (((s.noteFar m).setReg16 r (s.farOffset m)).setSreg q (s.farSegment m))

/-- The five low flags loaded from a byte; the others stay (R155). -/
def Flags.withLowByte (f : Flags) (v : Byte) : Flags :=
  { f with sf := v.getLsbD 7, zf := v.getLsbD 6, af := v.getLsbD 4, pf := v.getLsbD 2, cf := v.getLsbD 0 }

/-- The word PUSH stores for a register: PUSH SP stores the decremented SP (R162). -/
def State.pushed16 (s : State) (r : Reg16) : Word := if r = .sp then s.pushOffset else s.reg16 r

/-- The word PUSH stores for a postbyte operand, the operand read before SP changes (R166). -/
def State.pushedRm (s : State) : Rm16 → Word
  | .reg r => s.pushed16 r
  | .mem m => s.rm16 (.mem m)

/-- IN of a byte (R168). -/
def inByte (port : Word) (s : State) : State := (s.notePort8 port).setReg8 .al (s.portIn8 port)

/-- IN of a word; port FFFFh is refused (R168, R81). -/
def inWord (port : Word) (s : State) : Result :=
  if port = 0xFFFF then .refused .wordPortFFFF
  else .next ((s.notePort16 port).setReg16 .ax (s.portIn16 port))

/-- OUT of a word; port FFFFh is refused (R169, R81). -/
def outWord (port : Word) (s : State) : Result :=
  if port = 0xFFFF then .refused .wordPortFFFF else .next (s.portOut16 port s.regs.ax)

/-- MOV r/m8, r8 (R141). -/
def execMovRm8R8 (m : Rm8) (r : Reg8) (s : State) : Result := .next (s.put8 (s.loc8 m) (s.reg8 r))

/-- MOV r/m16, r16 (R141). -/
def execMovRm16R16 (m : Rm16) (r : Reg16) (s : State) : Result := .next (s.put16 (s.loc16 m) (s.reg16 r))

/-- MOV r8, r/m8 (R142). -/
def execMovR8Rm8 (r : Reg8) (m : Rm8) (s : State) : Result := .next ((s.noteRm8 m).setReg8 r (s.rm8 m))

/-- MOV r16, r/m16 (R142). -/
def execMovR16Rm16 (r : Reg16) (m : Rm16) (s : State) : Result := .next ((s.noteRm16 m).setReg16 r (s.rm16 m))

/-- MOV r/m8, imm8 (R143). -/
def execMovRm8Imm8 (m : Rm8) (v : Byte) (s : State) : Result := .next (s.put8 (s.loc8 m) v)

/-- MOV r/m16, imm16 (R143). -/
def execMovRm16Imm16 (m : Rm16) (v : Word) (s : State) : Result := .next (s.put16 (s.loc16 m) v)

/-- MOV r8, imm8 (R144). -/
def execMovR8Imm8 (r : Reg8) (v : Byte) (s : State) : Result := .next (s.setReg8 r v)

/-- MOV r16, imm16 (R144). -/
def execMovR16Imm16 (r : Reg16) (v : Word) (s : State) : Result := .next (s.setReg16 r v)

/-- MOV ES, r/m16 (R145). -/
def execMovEsRm16 (m : Rm16) (s : State) : Result := .next ((s.noteRm16 m).loadSreg .es (s.rm16 m))

/-- MOV SS, r/m16 (R145). -/
def execMovSsRm16 (m : Rm16) (s : State) : Result := .next ((s.noteRm16 m).loadSreg .ss (s.rm16 m))

/-- MOV DS, r/m16 (R145). -/
def execMovDsRm16 (m : Rm16) (s : State) : Result := .next ((s.noteRm16 m).loadSreg .ds (s.rm16 m))

/-- MOV r/m16, sreg (R146). -/
def execMovRm16Sreg (m : Rm16) (r : SReg) (s : State) : Result := .next (s.put16 (s.loc16 m) (s.sreg r))

/-- MOV AL, [addr16] (R147). -/
def execMovAlAddr (a : Word) (s : State) : Result :=
  .next ((s.noteReadByte (s.dataSegment .ds) a).setReg8 .al (s.readByte (s.dataSegment .ds) a))

/-- MOV AX, [addr16] (R147). -/
def execMovAxAddr (a : Word) (s : State) : Result :=
  .next ((s.noteReadWord (s.dataSegment .ds) a).setReg16 .ax (s.readWord (s.dataSegment .ds) a))

/-- MOV [addr16], AL (R147). -/
def execMovAddrAl (a : Word) (s : State) : Result := .next (s.writeByte (s.dataSegment .ds) a (s.reg8 .al))

/-- MOV [addr16], AX (R147). -/
def execMovAddrAx (a : Word) (s : State) : Result := .next (s.writeWord (s.dataSegment .ds) a (s.reg16 .ax))

/-- XCHG r8, r/m8 (R149): the bus is locked for the two accesses to a memory operand; a register operand makes none. -/
def execXchgR8Rm8 (r : Reg8) (m : Rm8) (s : State) : Result :=
  .next (s.underLock fun s => ((s.noteRm8 m).put8 (s.loc8 m) (s.reg8 r)).setReg8 r (s.rm8 m))

/-- XCHG r16, r/m16 (R149): the bus is locked for the two accesses to a memory operand; a register operand makes none. -/
def execXchgR16Rm16 (r : Reg16) (m : Rm16) (s : State) : Result :=
  .next (s.underLock fun s => ((s.noteRm16 m).put16 (s.loc16 m) (s.reg16 r)).setReg16 r (s.rm16 m))

/-- XCHG AX, CX (R150). -/
def execXchgAxCx (s : State) : Result := exchangeAx .cx s

/-- XCHG AX, DX (R150). -/
def execXchgAxDx (s : State) : Result := exchangeAx .dx s

/-- XCHG AX, BX (R150). -/
def execXchgAxBx (s : State) : Result := exchangeAx .bx s

/-- XCHG AX, SP (R150). -/
def execXchgAxSp (s : State) : Result := exchangeAx .sp s

/-- XCHG AX, BP (R150). -/
def execXchgAxBp (s : State) : Result := exchangeAx .bp s

/-- XCHG AX, SI (R150). -/
def execXchgAxSi (s : State) : Result := exchangeAx .si s

/-- XCHG AX, DI (R150). -/
def execXchgAxDi (s : State) : Result := exchangeAx .di s

/-- XLAT (R148). -/
def execXlat (s : State) : Result :=
  let off := s.regs.bx + zext16 (s.reg8 .al)
  .next ((s.noteReadByte (s.dataSegment .ds) off).setReg8 .al (s.readByte (s.dataSegment .ds) off))

/-- LEA r16, m (R153). -/
def execLea (r : Reg16) (m : Mem) (s : State) : Result := .next (s.setReg16 r (s.ea m))

/-- LDS r16, m (R151). -/
def execLds (r : Reg16) (m : Mem) (s : State) : Result := loadPointer .ds r m s

/-- LES r16, m (R152). -/
def execLes (r : Reg16) (m : Mem) (s : State) : Result := loadPointer .es r m s

/-- LAHF (R154, R33). -/
def execLahf (s : State) : Result := .next ((s.setReg8 .ah (lowByte (s.flags.image (s.drawWord 0)))).drawn 1)

/-- SAHF (R155). -/
def execSahf (s : State) : Result := .next (s.setFlags (s.flags.withLowByte (s.reg8 .ah)))

/-- PUSH r16 (R162). -/
def execPushR16 (r : Reg16) (s : State) : Result := .next (s.push (s.pushed16 r))

/-- PUSH ES (R164). -/
def execPushEs (s : State) : Result := .next (s.push s.es)

/-- PUSH CS (R164). -/
def execPushCs (s : State) : Result := .next (s.push s.cs)

/-- PUSH SS (R164). -/
def execPushSs (s : State) : Result := .next (s.push s.ss)

/-- PUSH DS (R164). -/
def execPushDs (s : State) : Result := .next (s.push s.ds)

/-- PUSH r/m16 (R166, R162). -/
def execPushRm16 (m : Rm16) (s : State) : Result := .next ((s.noteRm16 m).push (s.pushedRm m))

/-- POP r16 (R163). -/
def execPopR16 (r : Reg16) (s : State) : Result := .next (s.popped.setReg16 r s.top)

/-- POP ES (R165). -/
def execPopEs (s : State) : Result := .next (s.popped.loadSreg .es s.top)

/-- POP SS (R165). -/
def execPopSs (s : State) : Result := .next (s.popped.loadSreg .ss s.top)

/-- POP DS (R165). -/
def execPopDs (s : State) : Result := .next (s.popped.loadSreg .ds s.top)

/-- POP r/m16 (R167). -/
def execPopRm16 (m : Rm16) (s : State) : Result := .next (s.popped.put16 (s.popped.loc16 m) s.top)

/-- PUSHF (R170). -/
def execPushf (s : State) : Result := .next s.pushFlags

/-- POPF (R171). -/
def execPopf (s : State) : Result := .next (s.popped.setFlags (Flags.ofImage s.top))

/-- IN AL, port8 (R168). -/
def execInAlPort (p : Byte) (s : State) : Result := .next (inByte (zext16 p) s)

/-- IN AX, port8 (R168). -/
def execInAxPort (p : Byte) (s : State) : Result := inWord (zext16 p) s

/-- IN AL, DX (R168). -/
def execInAlDx (s : State) : Result := .next (inByte s.regs.dx s)

/-- IN AX, DX (R168). -/
def execInAxDx (s : State) : Result := inWord s.regs.dx s

/-- OUT port8, AL (R169). -/
def execOutPortAl (p : Byte) (s : State) : Result := .next (s.portOut8 (zext16 p) (s.reg8 .al))

/-- OUT port8, AX (R169). -/
def execOutPortAx (p : Byte) (s : State) : Result := outWord (zext16 p) s

/-- OUT DX, AL (R169). -/
def execOutDxAl (s : State) : Result := .next (s.portOut8 s.regs.dx (s.reg8 .al))

/-- OUT DX, AX (R169). -/
def execOutDxAx (s : State) : Result := outWord s.regs.dx s

end Sys2Proof.Machine
end

