-- ==== Sys2Proof/Machine/Decimal.lean ====
section
/-!
DEFINITION. The decimal corrections (R341 to R346).
-/
namespace Sys2Proof.Machine

/-- Whether the low digit needs a correction: low nibble above 9, or AF (R341 to R344). -/
def State.lowDigit (s : State) : Bool := decide (9 < (s.reg8 .al).toNat % 16) || s.flags.af

/-- Whether the high digit needs a correction: AL above 99h before, or CF before (R341, R342). -/
def State.highDigit (s : State) : Bool := decide (0x99 < (s.reg8 .al).toNat) || s.flags.cf

/-- The number DAA adds and DAS subtracts: 06h, 60h, 66h or 0. -/
def State.packedCorrection (s : State) : Byte := (if s.lowDigit then 0x06 else 0) + (if s.highDigit then 0x60 else 0)

/-- AL and the flags of a packed correction; OF is free (R341, R342). -/
def State.packedResult (s : State) (al : Byte) : State :=
  ((s.setFlags { s.resultFlags al with af := s.lowDigit, cf := s.highDigit, of := s.drawBit 0 }).drawn 1).setReg8 .al al

/-- DAA (R341). -/
def State.daa (s : State) : State := s.packedResult (s.reg8 .al + s.packedCorrection)

/-- DAS (R342). -/
def State.das (s : State) : State := s.packedResult (s.reg8 .al - s.packedCorrection)

/-- AX and the flags of an unpacked correction: the high nibble of AL cleared; OF, SF, ZF, PF are free (R343, R344). -/
def State.unpackedResult (s : State) (al ah : Byte) : State :=
  ((s.setFlags { s.flags with af := s.lowDigit, cf := s.lowDigit, of := s.drawBit 0, sf := s.drawBit 1, zf := s.drawBit 2,
                              pf := s.drawBit 3 }).drawn 4).setReg16 .ax (wordOf (al &&& 0x0F) ah)

/-- AAA (R343). -/
def State.aaa (s : State) : State :=
  if s.lowDigit then s.unpackedResult (s.reg8 .al + 6) (s.reg8 .ah + 1)
  else s.unpackedResult (s.reg8 .al) (s.reg8 .ah)

/-- AAS (R344). -/
def State.aas (s : State) : State :=
  if s.lowDigit then s.unpackedResult (s.reg8 .al - 6) (s.reg8 .ah - 1)
  else s.unpackedResult (s.reg8 .al) (s.reg8 .ah)

/-- AX and the flags of AAM and AAD: SF, ZF, PF from AL; OF, AF, CF are free (R345, R346). -/
def State.tensResult (s : State) (al ah : Byte) : State :=
  ((s.setFlags { s.resultFlags al with of := s.drawBit 0, af := s.drawBit 1, cf := s.drawBit 2 }).drawn 3).setReg16 .ax
    (wordOf al ah)

/-- AAM (R345). -/
def State.aam (s : State) : State :=
  s.tensResult (BitVec.ofNat 8 ((s.reg8 .al).toNat % 10)) (BitVec.ofNat 8 ((s.reg8 .al).toNat / 10))

/-- AAD (R346). -/
def State.aad (s : State) : State := s.tensResult (s.reg8 .ah * 0x0A + s.reg8 .al) 0

/-- DAA (R341). -/
def execDaa (s : State) : Result := .next (s.daa)

/-- DAS (R342). -/
def execDas (s : State) : Result := .next (s.das)

/-- AAA (R343). -/
def execAaa (s : State) : Result := .next (s.aaa)

/-- AAS (R344). -/
def execAas (s : State) : Result := .next (s.aas)

/-- AAM (R345). -/
def execAam (s : State) : Result := .next (s.aam)

/-- AAD (R346). -/
def execAad (s : State) : Result := .next (s.aad)

end Sys2Proof.Machine
end

