-- ==== Sys2Proof/Machine/Interrupts.lean ====
section
/-!
DEFINITION. INT, INTO and IRET (R286 to R289): calls of the one interrupt sequence (R356) and of its return.
-/
namespace Sys2Proof.Machine

/-- INT type8 (R286, R356). -/
def execIntN (t : Byte) (s : State) : Result := .next (s.raise t)

/-- INT 3 (R287, R356). -/
def execInt3 (s : State) : Result := .next (s.raise 3)

/-- INTO (R288, R356). -/
def execInto (s : State) : Result := .next (if s.flags.of then s.raise 4 else s)

/-- IRET (R289). -/
def execIret (s : State) : Result := .next s.returnFromInterrupt

end Sys2Proof.Machine
end

