-- ==== Sys2Proof/Machine/Logic.lean ====
section
/-!
DEFINITION. The logic instructions (R220 to R225).
-/
namespace Sys2Proof.Machine

/-- AND r/m8, r8 (R221). -/
def execAndRm8R8 (m : Rm8) (r : Reg8) (s : State) : Result := binary8 andOp (s.loc8 m) (s.reg8 r) s

/-- AND r/m16, r16 (R221). -/
def execAndRm16R16 (m : Rm16) (r : Reg16) (s : State) : Result := binary16 andOp (s.loc16 m) (s.reg16 r) s

/-- AND r8, r/m8 (R221). -/
def execAndR8Rm8 (r : Reg8) (m : Rm8) (s : State) : Result := binary8 andOp (.reg r) (s.rm8 m) (s.noteRm8 m)

/-- AND r16, r/m16 (R221). -/
def execAndR16Rm16 (r : Reg16) (m : Rm16) (s : State) : Result := binary16 andOp (.reg r) (s.rm16 m) (s.noteRm16 m)

/-- AND AL, imm8 (R221). -/
def execAndAlImm8 (v : Byte) (s : State) : Result := binary8 andOp (.reg .al) v s

/-- AND AX, imm16 (R221). -/
def execAndAxImm16 (v : Word) (s : State) : Result := binary16 andOp (.reg .ax) v s

/-- AND r/m8, imm8 (R221). -/
def execAndRm8Imm8 (m : Rm8) (v : Byte) (s : State) : Result := binary8 andOp (s.loc8 m) v s

/-- AND r/m16, imm16 (R221). -/
def execAndRm16Imm16 (m : Rm16) (v : Word) (s : State) : Result := binary16 andOp (s.loc16 m) v s

/-- OR r/m8, r8 (R222). -/
def execOrRm8R8 (m : Rm8) (r : Reg8) (s : State) : Result := binary8 orOp (s.loc8 m) (s.reg8 r) s

/-- OR r/m16, r16 (R222). -/
def execOrRm16R16 (m : Rm16) (r : Reg16) (s : State) : Result := binary16 orOp (s.loc16 m) (s.reg16 r) s

/-- OR r8, r/m8 (R222). -/
def execOrR8Rm8 (r : Reg8) (m : Rm8) (s : State) : Result := binary8 orOp (.reg r) (s.rm8 m) (s.noteRm8 m)

/-- OR r16, r/m16 (R222). -/
def execOrR16Rm16 (r : Reg16) (m : Rm16) (s : State) : Result := binary16 orOp (.reg r) (s.rm16 m) (s.noteRm16 m)

/-- OR AL, imm8 (R222). -/
def execOrAlImm8 (v : Byte) (s : State) : Result := binary8 orOp (.reg .al) v s

/-- OR AX, imm16 (R222). -/
def execOrAxImm16 (v : Word) (s : State) : Result := binary16 orOp (.reg .ax) v s

/-- OR r/m8, imm8 (R222). -/
def execOrRm8Imm8 (m : Rm8) (v : Byte) (s : State) : Result := binary8 orOp (s.loc8 m) v s

/-- OR r/m16, imm16 (R222). -/
def execOrRm16Imm16 (m : Rm16) (v : Word) (s : State) : Result := binary16 orOp (s.loc16 m) v s

/-- XOR r/m8, r8 (R223). -/
def execXorRm8R8 (m : Rm8) (r : Reg8) (s : State) : Result := binary8 xorOp (s.loc8 m) (s.reg8 r) s

/-- XOR r/m16, r16 (R223). -/
def execXorRm16R16 (m : Rm16) (r : Reg16) (s : State) : Result := binary16 xorOp (s.loc16 m) (s.reg16 r) s

/-- XOR r8, r/m8 (R223). -/
def execXorR8Rm8 (r : Reg8) (m : Rm8) (s : State) : Result := binary8 xorOp (.reg r) (s.rm8 m) (s.noteRm8 m)

/-- XOR r16, r/m16 (R223). -/
def execXorR16Rm16 (r : Reg16) (m : Rm16) (s : State) : Result := binary16 xorOp (.reg r) (s.rm16 m) (s.noteRm16 m)

/-- XOR AL, imm8 (R223). -/
def execXorAlImm8 (v : Byte) (s : State) : Result := binary8 xorOp (.reg .al) v s

/-- XOR AX, imm16 (R223). -/
def execXorAxImm16 (v : Word) (s : State) : Result := binary16 xorOp (.reg .ax) v s

/-- XOR r/m8, imm8 (R223). -/
def execXorRm8Imm8 (m : Rm8) (v : Byte) (s : State) : Result := binary8 xorOp (s.loc8 m) v s

/-- XOR r/m16, imm16 (R223). -/
def execXorRm16Imm16 (m : Rm16) (v : Word) (s : State) : Result := binary16 xorOp (s.loc16 m) v s

/-- TEST r/m8, r8 (R224). -/
def execTestRm8R8 (m : Rm8) (r : Reg8) (s : State) : Result := flags8 andOp (s.loc8 m) (s.reg8 r) s

/-- TEST r/m16, r16 (R224). -/
def execTestRm16R16 (m : Rm16) (r : Reg16) (s : State) : Result := flags16 andOp (s.loc16 m) (s.reg16 r) s

/-- TEST AL, imm8 (R224). -/
def execTestAlImm8 (v : Byte) (s : State) : Result := flags8 andOp (.reg .al) v s

/-- TEST AX, imm16 (R224). -/
def execTestAxImm16 (v : Word) (s : State) : Result := flags16 andOp (.reg .ax) v s

/-- TEST r/m8, imm8 (R224). -/
def execTestRm8Imm8 (m : Rm8) (v : Byte) (s : State) : Result := flags8 andOp (s.loc8 m) v s

/-- TEST r/m16, imm16 (R224). -/
def execTestRm16Imm16 (m : Rm16) (v : Word) (s : State) : Result := flags16 andOp (s.loc16 m) v s

/-- NOT r/m8 (R225). -/
def execNotRm8 (m : Rm8) (s : State) : Result := unary8 notOp (s.loc8 m) s

/-- NOT r/m16 (R225). -/
def execNotRm16 (m : Rm16) (s : State) : Result := unary16 notOp (s.loc16 m) s

end Sys2Proof.Machine
end

