-- ==== Sys2Proof/Machine/MulDiv.lean ====
section
/-!
DEFINITION. Multiplication and division (R196 to R203): exact integers, narrowed at the end, and the divide error (R201,
R359).
-/
namespace Sys2Proof.Machine

/-- The dividend and product register pair DX:AX. -/
def State.dxax (s : State) : BitVec 32 := s.regs.dx ++ s.regs.ax

/-- Write DX:AX. -/
def State.setDxAx (s : State) (v : BitVec 32) : State :=
  (s.setReg16 .dx (v.extractLsb' 16 16)).setReg16 .ax (v.extractLsb' 0 16)

/-- The state with the flags of a multiplication (R198); four free bits. -/
def State.multiplied (s : State) (big : Bool) : State := (s.setFlags (mulFlags s big)).drawn 4

/-- MUL, byte (R196). -/
def mul8 (b : Byte) (s : State) : Result :=
  let p : Word := BitVec.ofNat 16 ((s.reg8 .al).toNat * b.toNat)
  .next ((s.multiplied (highByte p != 0)).setReg16 .ax p)

/-- MUL, word (R196). -/
def mul16 (b : Word) (s : State) : Result :=
  let p : BitVec 32 := BitVec.ofNat 32 (s.regs.ax.toNat * b.toNat)
  .next ((s.multiplied (p.extractLsb' 16 16 != 0)).setDxAx p)

/-- IMUL, byte (R197): CF and OF say that AH is not the sign extension of AL. -/
def imul8 (b : Byte) (s : State) : Result :=
  let p : Word := BitVec.ofInt 16 ((s.reg8 .al).toInt * b.toInt)
  .next ((s.multiplied (p != sext16 (lowByte p))).setReg16 .ax p)

/-- IMUL, word (R197): CF and OF say that DX is not the sign extension of AX. -/
def imul16 (b : Word) (s : State) : Result :=
  let p : BitVec 32 := BitVec.ofInt 32 (s.regs.ax.toInt * b.toInt)
  .next ((s.multiplied (p != (p.extractLsb' 0 16).signExtend 32)).setDxAx p)

/-- The state with the flags of a division, on either outcome (R201); six free bits. -/
def State.divided (s : State) : State := (s.setFlags (divFlags s)).drawn 6

/-- The divide error of a byte division (R201, R359): AX unpredictable, then the interrupt of type 0. -/
def divideError8 (s : State) : Result := .next ((s.divided.setReg16 .ax (s.drawWord 0)).raise 0)

/-- The divide error of a word division (R201, R359): AX and DX unpredictable. -/
def divideError16 (s : State) : Result :=
  .next (((s.divided.setReg16 .ax (s.drawWord 0)).setReg16 .dx (s.drawWord 1)).raise 0)

/-- DIV, byte (R200). -/
def div8 (b : Byte) (s : State) : Result :=
  let n := s.regs.ax.toNat
  let d := b.toNat
  if d = 0 ∨ 2 ^ 8 ≤ n / d then divideError8 s
  else .next (s.divided.setReg16 .ax (wordOf (BitVec.ofNat 8 (n / d)) (BitVec.ofNat 8 (n % d))))

/-- DIV, word (R200). -/
def div16 (b : Word) (s : State) : Result :=
  let n := s.dxax.toNat
  let d := b.toNat
  if d = 0 ∨ 2 ^ 16 ≤ n / d then divideError16 s
  else .next ((s.divided.setReg16 .dx (BitVec.ofNat 16 (n % d))).setReg16 .ax (BitVec.ofNat 16 (n / d)))

/-- Whether IDIV takes the divide error for divisor `d` and quotient `q` of `w` bits: the quotient -2^(w-1) is left free
(R203, IDIV_MIN; assumption log 9). -/
def idivError (w : Nat) (s : State) (d q : Int) : Bool :=
  decide (d = 0) || decide (2 ^ (w - 1) ≤ q) || decide (q < -(2 ^ (w - 1)))
    || (decide (q = -(2 ^ (w - 1))) && Config.idivMinFaults s.draws)

/-- IDIV, byte (R203): the quotient truncated, the remainder with the sign of the dividend. -/
def idiv8 (b : Byte) (s : State) : Result :=
  let n := s.regs.ax.toInt
  let d := b.toInt
  if idivError 8 s d (n.tdiv d) then divideError8 s
  else .next (s.divided.setReg16 .ax (wordOf (BitVec.ofInt 8 (n.tdiv d)) (BitVec.ofInt 8 (n.tmod d))))

/-- IDIV, word (R203). -/
def idiv16 (b : Word) (s : State) : Result :=
  let n := s.dxax.toInt
  let d := b.toInt
  if idivError 16 s d (n.tdiv d) then divideError16 s
  else .next ((s.divided.setReg16 .dx (BitVec.ofInt 16 (n.tmod d))).setReg16 .ax (BitVec.ofInt 16 (n.tdiv d)))

/-- MUL r/m8 (R196). -/
def execMulRm8 (m : Rm8) (s : State) : Result := mul8 (s.rm8 m) (s.noteRm8 m)

/-- MUL r/m16 (R196). -/
def execMulRm16 (m : Rm16) (s : State) : Result := mul16 (s.rm16 m) (s.noteRm16 m)

/-- IMUL r/m8 (R197). -/
def execImulRm8 (m : Rm8) (s : State) : Result := imul8 (s.rm8 m) (s.noteRm8 m)

/-- IMUL r/m16 (R197). -/
def execImulRm16 (m : Rm16) (s : State) : Result := imul16 (s.rm16 m) (s.noteRm16 m)

/-- DIV r/m8 (R200). -/
def execDivRm8 (m : Rm8) (s : State) : Result := div8 (s.rm8 m) (s.noteRm8 m)

/-- DIV r/m16 (R200). -/
def execDivRm16 (m : Rm16) (s : State) : Result := div16 (s.rm16 m) (s.noteRm16 m)

/-- IDIV r/m8 (R203). -/
def execIdivRm8 (m : Rm8) (s : State) : Result := idiv8 (s.rm8 m) (s.noteRm8 m)

/-- IDIV r/m16 (R203). -/
def execIdivRm16 (m : Rm16) (s : State) : Result := idiv16 (s.rm16 m) (s.noteRm16 m)

end Sys2Proof.Machine
end

