-- ==== Sys2Proof/Machine/Processor.lean ====
section
/-!
DEFINITION. Processor control (R320 to R332): flag instructions, HLT, WAIT, NOP, ESC and the prefixes. A prefix records itself
for the instruction that follows; a second one of its kind is refused (R52, R119; assumption log 15).
-/
namespace Sys2Proof.Machine

/-- A segment override prefix (R68, R332, R119). -/
def overrideSegment (r : SReg) (s : State) : Result :=
  if s.pfx.seg.isSome then .refused .duplicatePrefix else .next { s with pfx := { s.pfx with seg := some r } }

/-- A repeat prefix (R302, R119). -/
def repeatNext (p : RepeatPrefix) (s : State) : Result :=
  if s.pfx.rep.isSome then .refused .duplicatePrefix else .next { s with pfx := { s.pfx with rep := some p } }

/-- STC (R320). -/
def execStc (s : State) : Result := .next (s.setFlags { s.flags with cf := true })

/-- CLC (R321). -/
def execClc (s : State) : Result := .next (s.setFlags { s.flags with cf := false })

/-- CMC (R322). -/
def execCmc (s : State) : Result := .next (s.setFlags { s.flags with cf := !s.flags.cf })

/-- STD (R323). -/
def execStd (s : State) : Result := .next (s.setFlags { s.flags with df := true })

/-- CLD (R324). -/
def execCld (s : State) : Result := .next (s.setFlags { s.flags with df := false })

/-- STI (R325, R364). -/
def execSti (s : State) : Result := .next { s.setFlags { s.flags with ifl := true } with shadow := true }

/-- CLI (R326). -/
def execCli (s : State) : Result := .next (s.setFlags { s.flags with ifl := false })

/-- HLT (R327). -/
def execHlt (s : State) : Result := .next { s with halted := true }

/-- WAIT (R328). -/
def execWait (s : State) : Result := .next (if s.pins.testLevel then { s with inProgress := some .wait } else s)

/-- NOP (XCHG AX, AX) (R330). -/
def execNop (s : State) : Result := .next s

/-- ESC ext, r/m (R331): a memory operand is read, one word, for the bus, and the word discarded; a register operand makes no
bus cycle. -/
def execEsc (_hi _lo : BitVec 3) (m : Rm16) (s : State) : Result := .next (s.noteRm16 m)

/-- ES: (segment override prefix) (R68, R116). -/
def execOverrideEs (s : State) : Result := overrideSegment .es s

/-- CS: (segment override prefix) (R68, R116). -/
def execOverrideCs (s : State) : Result := overrideSegment .cs s

/-- SS: (segment override prefix) (R68, R116). -/
def execOverrideSs (s : State) : Result := overrideSegment .ss s

/-- DS: (segment override prefix) (R68, R116). -/
def execOverrideDs (s : State) : Result := overrideSegment .ds s

/-- REP/REPE/REPZ (prefix) (R302, R117). -/
def execRep (s : State) : Result := repeatNext .repe s

/-- REPNE/REPNZ (prefix) (R302, R117). -/
def execRepne (s : State) : Result := repeatNext .repne s

/-- LOCK (prefix) (R329, R119). -/
def execLockPrefix (s : State) : Result :=
  if s.pfx.lock then .refused .duplicatePrefix else .next { s with pfx := { s.pfx with lock := true } }

end Sys2Proof.Machine
end

