-- ==== Sys2Proof/Machine/Shift.lean ====
section
/-!
DEFINITION. Shifts and rotates (R230 to R239): one-bit steps on an operand and CF, repeated `count` times.
-/
namespace Sys2Proof.Machine

/-- A one-bit step: operand and CF before, operand and bit moved out after. -/
abbrev ShiftStep (w : Nat) := BitVec w × Bool → BitVec w × Bool

/-- ROL: the top bit moves out and in at the bottom (R233). -/
def rolStep {w : Nat} : ShiftStep w := fun x => ((x.1 <<< 1) ||| carryIn w x.1.msb, x.1.msb)

/-- ROR: the bottom bit moves out and in at the top (R234). -/
def rorStep {w : Nat} : ShiftStep w := fun x =>
  ((x.1 >>> 1) ||| (carryIn w (x.1.getLsbD 0) <<< (w - 1)), x.1.getLsbD 0)

/-- RCL: CF moves in at the bottom (R235). -/
def rclStep {w : Nat} : ShiftStep w := fun x => ((x.1 <<< 1) ||| carryIn w x.2, x.1.msb)

/-- RCR: CF moves in at the top (R236). -/
def rcrStep {w : Nat} : ShiftStep w := fun x =>
  ((x.1 >>> 1) ||| (carryIn w x.2 <<< (w - 1)), x.1.getLsbD 0)

/-- SHL and SAL: 0 moves in at the bottom (R237). -/
def shlStep {w : Nat} : ShiftStep w := fun x => (x.1 <<< 1, x.1.msb)

/-- SHR: 0 moves in at the top (R238). -/
def shrStep {w : Nat} : ShiftStep w := fun x => (x.1 >>> 1, x.1.getLsbD 0)

/-- SAR: the sign is copied (R239). -/
def sarStep {w : Nat} : ShiftStep w := fun x => (x.1.sshiftRight 1, x.1.getLsbD 0)

/-- `count` steps (R231). -/
def repeatStep {w : Nat} (f : ShiftStep w) : Nat → BitVec w × Bool → BitVec w × Bool
  | 0, x => x
  | n + 1, x => repeatStep f n (f x)

/-- `ShiftFlags` (R232): `ordinary` for SHL, SHR and SAR; `static` for the count 1. Two free bits: OF of a dynamic shift
and AF of an ordinary one. -/
def State.shiftFlags {w : Nat} (s : State) (ordinary static : Bool) (a res : BitVec w) (last : Bool) : Flags :=
  let of := if static then a.msb != res.msb else s.drawBit 0
  if ordinary then { s.resultFlags res with cf := last, of := of, af := s.drawBit 1 }
  else { s.flags with cf := last, of := of }

/-- Shift the byte at `l` by `n` bits, `n` not 0. -/
def shift8 (ordinary static : Bool) (f : ShiftStep 8) (n : Nat) (l : Loc8) (s : State) : Result :=
  let a := s.get8 l
  let r := repeatStep f n (a, s.flags.cf)
  .next ((((s.noteGet8 l).setFlags (s.shiftFlags ordinary static a r.1 r.2)).drawn 2).put8 l r.1)

/-- Shift the word at `l` by `n` bits, `n` not 0. -/
def shift16 (ordinary static : Bool) (f : ShiftStep 16) (n : Nat) (l : Loc16) (s : State) : Result :=
  let a := s.get16 l
  let r := repeatStep f n (a, s.flags.cf)
  .next ((((s.noteGet16 l).setFlags (s.shiftFlags ordinary static a r.1 r.2)).drawn 2).put16 l r.1)

/-- The static form: one bit (R231). -/
def shiftOne8 (ordinary : Bool) (f : ShiftStep 8) (l : Loc8) (s : State) : Result := shift8 ordinary true f 1 l s

/-- The static form of a word: one bit (R231). -/
def shiftOne16 (ordinary : Bool) (f : ShiftStep 16) (l : Loc16) (s : State) : Result := shift16 ordinary true f 1 l s

/-- The dynamic form: CL bits, all eight bits of CL used; a count of 0 writes the operand back, as R231 says,
and no flag (93_implementation_defined.md A19 has nothing written: DESIGN CHOICE, assumption log 25). -/
def shiftCl8 (ordinary : Bool) (f : ShiftStep 8) (l : Loc8) (s : State) : Result :=
  if s.reg8 .cl = 0 then .next ((s.noteGet8 l).put8 l (s.get8 l)) else shift8 ordinary false f (s.reg8 .cl).toNat l s

/-- The dynamic form of a word (R231; the count 0: assumption log 25). -/
def shiftCl16 (ordinary : Bool) (f : ShiftStep 16) (l : Loc16) (s : State) : Result :=
  if s.reg8 .cl = 0 then .next ((s.noteGet16 l).put16 l (s.get16 l)) else shift16 ordinary false f (s.reg8 .cl).toNat l s

/-- ROL r/m8, 1 (R233, R231, R232). -/
def execRolRm8One (m : Rm8) (s : State) : Result := shiftOne8 false rolStep (s.loc8 m) s

/-- ROL r/m16, 1 (R233, R231, R232). -/
def execRolRm16One (m : Rm16) (s : State) : Result := shiftOne16 false rolStep (s.loc16 m) s

/-- ROL r/m8, CL (R233, R231, R232). -/
def execRolRm8Cl (m : Rm8) (s : State) : Result := shiftCl8 false rolStep (s.loc8 m) s

/-- ROL r/m16, CL (R233, R231, R232). -/
def execRolRm16Cl (m : Rm16) (s : State) : Result := shiftCl16 false rolStep (s.loc16 m) s

/-- ROR r/m8, 1 (R234, R231, R232). -/
def execRorRm8One (m : Rm8) (s : State) : Result := shiftOne8 false rorStep (s.loc8 m) s

/-- ROR r/m16, 1 (R234, R231, R232). -/
def execRorRm16One (m : Rm16) (s : State) : Result := shiftOne16 false rorStep (s.loc16 m) s

/-- ROR r/m8, CL (R234, R231, R232). -/
def execRorRm8Cl (m : Rm8) (s : State) : Result := shiftCl8 false rorStep (s.loc8 m) s

/-- ROR r/m16, CL (R234, R231, R232). -/
def execRorRm16Cl (m : Rm16) (s : State) : Result := shiftCl16 false rorStep (s.loc16 m) s

/-- RCL r/m8, 1 (R235, R231, R232). -/
def execRclRm8One (m : Rm8) (s : State) : Result := shiftOne8 false rclStep (s.loc8 m) s

/-- RCL r/m16, 1 (R235, R231, R232). -/
def execRclRm16One (m : Rm16) (s : State) : Result := shiftOne16 false rclStep (s.loc16 m) s

/-- RCL r/m8, CL (R235, R231, R232). -/
def execRclRm8Cl (m : Rm8) (s : State) : Result := shiftCl8 false rclStep (s.loc8 m) s

/-- RCL r/m16, CL (R235, R231, R232). -/
def execRclRm16Cl (m : Rm16) (s : State) : Result := shiftCl16 false rclStep (s.loc16 m) s

/-- RCR r/m8, 1 (R236, R231, R232). -/
def execRcrRm8One (m : Rm8) (s : State) : Result := shiftOne8 false rcrStep (s.loc8 m) s

/-- RCR r/m16, 1 (R236, R231, R232). -/
def execRcrRm16One (m : Rm16) (s : State) : Result := shiftOne16 false rcrStep (s.loc16 m) s

/-- RCR r/m8, CL (R236, R231, R232). -/
def execRcrRm8Cl (m : Rm8) (s : State) : Result := shiftCl8 false rcrStep (s.loc8 m) s

/-- RCR r/m16, CL (R236, R231, R232). -/
def execRcrRm16Cl (m : Rm16) (s : State) : Result := shiftCl16 false rcrStep (s.loc16 m) s

/-- SHL/SAL r/m8, 1 (R237, R231, R232). -/
def execShlRm8One (m : Rm8) (s : State) : Result := shiftOne8 true shlStep (s.loc8 m) s

/-- SHL/SAL r/m16, 1 (R237, R231, R232). -/
def execShlRm16One (m : Rm16) (s : State) : Result := shiftOne16 true shlStep (s.loc16 m) s

/-- SHL/SAL r/m8, CL (R237, R231, R232). -/
def execShlRm8Cl (m : Rm8) (s : State) : Result := shiftCl8 true shlStep (s.loc8 m) s

/-- SHL/SAL r/m16, CL (R237, R231, R232). -/
def execShlRm16Cl (m : Rm16) (s : State) : Result := shiftCl16 true shlStep (s.loc16 m) s

/-- SHR r/m8, 1 (R238, R231, R232). -/
def execShrRm8One (m : Rm8) (s : State) : Result := shiftOne8 true shrStep (s.loc8 m) s

/-- SHR r/m16, 1 (R238, R231, R232). -/
def execShrRm16One (m : Rm16) (s : State) : Result := shiftOne16 true shrStep (s.loc16 m) s

/-- SHR r/m8, CL (R238, R231, R232). -/
def execShrRm8Cl (m : Rm8) (s : State) : Result := shiftCl8 true shrStep (s.loc8 m) s

/-- SHR r/m16, CL (R238, R231, R232). -/
def execShrRm16Cl (m : Rm16) (s : State) : Result := shiftCl16 true shrStep (s.loc16 m) s

/-- SAR r/m8, 1 (R239, R231, R232). -/
def execSarRm8One (m : Rm8) (s : State) : Result := shiftOne8 true sarStep (s.loc8 m) s

/-- SAR r/m16, 1 (R239, R231, R232). -/
def execSarRm16One (m : Rm16) (s : State) : Result := shiftOne16 true sarStep (s.loc16 m) s

/-- SAR r/m8, CL (R239, R231, R232). -/
def execSarRm8Cl (m : Rm8) (s : State) : Result := shiftCl8 true sarStep (s.loc8 m) s

/-- SAR r/m16, CL (R239, R231, R232). -/
def execSarRm16Cl (m : Rm16) (s : State) : Result := shiftCl16 true sarStep (s.loc16 m) s

end Sys2Proof.Machine
end

