-- ==== Sys2Proof/Machine/String.lean ====
section
/-!
DEFINITION. String instructions and the repeat prefix (R300 to R309). One evaluation of a repeated instruction is one element;
`inProgress` says that another element follows (R302, R304; assumption log 16).
-/
namespace Sys2Proof.Machine

/-- `delta` of R301 for an element of `n` bytes. -/
def State.delta (s : State) (n : Word) : Word := if s.flags.df then 0 - n else n

/-- `Step(SI)` (R301). -/
def State.stepSi (s : State) (n : Word) : State := s.setReg16 .si (s.regs.si + s.delta n)

/-- `Step(DI)` (R301). -/
def State.stepDi (s : State) (n : Word) : State := s.setReg16 .di (s.regs.di + s.delta n)

/-- The segment of the source element: DS or the override (R300). -/
def State.sourceSegment (s : State) : Word := s.dataSegment .ds

/-- The source element has been read, a byte. -/
def State.noteSource8 (s : State) : State := s.noteReadByte s.sourceSegment s.regs.si

/-- The source element has been read, a word. -/
def State.noteSource16 (s : State) : State := s.noteReadWord s.sourceSegment s.regs.si

/-- The destination element has been read, a byte. -/
def State.noteDest8 (s : State) : State := s.noteReadByte s.es s.regs.di

/-- The destination element has been read, a word. -/
def State.noteDest16 (s : State) : State := s.noteReadWord s.es s.regs.di

/-- MOVS, one byte (R305). -/
def movs8 (s : State) : State :=
  ((s.noteSource8.writeByte s.es s.regs.di (s.readByte s.sourceSegment s.regs.si)).stepSi 1).stepDi 1

/-- CMPS, one byte: source element minus destination element, read in this order (R306). -/
def cmps8 (s : State) : State :=
  let s1 := s.noteSource8
  ((s1.noteDest8.setFlags (subFlags s (s.readByte s.sourceSegment s.regs.si) (s1.readByte s.es s.regs.di) false)).stepSi
    1).stepDi 1

/-- SCAS, one byte: AL minus the element (R307). -/
def scas8 (s : State) : State :=
  (s.noteDest8.setFlags (subFlags s (s.reg8 .al) (s.readByte s.es s.regs.di) false)).stepDi 1

/-- LODS, one byte (R308). -/
def lods8 (s : State) : State := (s.noteSource8.setReg8 .al (s.readByte s.sourceSegment s.regs.si)).stepSi 1

/-- STOS, one byte (R309). -/
def stos8 (s : State) : State := (s.writeByte s.es s.regs.di (s.reg8 .al)).stepDi 1

/-- MOVS, one word (R305). -/
def movs16 (s : State) : State :=
  ((s.noteSource16.writeWord s.es s.regs.di (s.readWord s.sourceSegment s.regs.si)).stepSi 2).stepDi 2

/-- CMPS, one word: source element minus destination element, read in this order (R306). -/
def cmps16 (s : State) : State :=
  let s1 := s.noteSource16
  ((s1.noteDest16.setFlags (subFlags s (s.readWord s.sourceSegment s.regs.si) (s1.readWord s.es s.regs.di) false)).stepSi
    2).stepDi 2

/-- SCAS, one word: AX minus the element (R307). -/
def scas16 (s : State) : State :=
  (s.noteDest16.setFlags (subFlags s s.regs.ax (s.readWord s.es s.regs.di) false)).stepDi 2

/-- LODS, one word (R308). -/
def lods16 (s : State) : State := (s.noteSource16.setReg16 .ax (s.readWord s.sourceSegment s.regs.si)).stepSi 2

/-- STOS, one word (R309). -/
def stos16 (s : State) : State := (s.writeWord s.es s.regs.di s.regs.ax).stepDi 2

/-- Whether ZF ends a repeated CMPS or SCAS (R302). -/
def stopsOnZero (p : RepeatPrefix) (zf : Bool) : Bool :=
  match p with
  | .repe => !zf
  | .repne => zf

/-- The state after one element: CX decremented, no flag written (R302). -/
def State.countElement (s : State) : State := s.setReg16 .cx (s.regs.cx - 1)

/-- `RepString` of R302, up to the next interrupt window: nothing if CX is 0; else one element, and `inProgress` if another
is to follow. Without a repeat prefix, one element. -/
def repeatString (i : Instr) (compares : Bool) (prim : State → State) (s : State) : Result :=
  match s.pfx.rep with
  | none => .next (prim s)
  | some p =>
    if s.regs.cx = 0 then .next s
    else
      let t := (prim s).countElement
      if t.regs.cx = 0 || (compares && stopsOnZero p t.flags.zf) then .next t
      else .next { t with inProgress := some i }

/-- MOVSB (R305, R302). -/
def execMovsb (s : State) : Result := repeatString .movsb false movs8 s

/-- MOVSW (R305, R302). -/
def execMovsw (s : State) : Result := repeatString .movsw false movs16 s

/-- CMPSB (R306, R302). -/
def execCmpsb (s : State) : Result := repeatString .cmpsb true cmps8 s

/-- CMPSW (R306, R302). -/
def execCmpsw (s : State) : Result := repeatString .cmpsw true cmps16 s

/-- SCASB (R307, R302). -/
def execScasb (s : State) : Result := repeatString .scasb true scas8 s

/-- SCASW (R307, R302). -/
def execScasw (s : State) : Result := repeatString .scasw true scas16 s

/-- LODSB (R308, R302). -/
def execLodsb (s : State) : Result := repeatString .lodsb false lods8 s

/-- LODSW (R308, R302). -/
def execLodsw (s : State) : Result := repeatString .lodsw false lods16 s

/-- STOSB (R309, R302). -/
def execStosb (s : State) : Result := repeatString .stosb false stos8 s

/-- STOSW (R309, R302). -/
def execStosw (s : State) : Result := repeatString .stosw false stos16 s

end Sys2Proof.Machine
end

