-- ==== Sys2Proof/Machine/Dispatch.lean ====
section
/-!
DEFINITION. The dispatch: one arm per instruction, each one call of its meaning.
-/
namespace Sys2Proof.Machine

def exec (i : Instr) (s : State) : Host.Outcome State Fault Refusal :=
  match i with
  | .addRm8R8 m r => Sys2Proof.Machine.execAddRm8R8 m r s
  | .addRm16R16 m r => Sys2Proof.Machine.execAddRm16R16 m r s
  | .addR8Rm8 r m => Sys2Proof.Machine.execAddR8Rm8 r m s
  | .addR16Rm16 r m => Sys2Proof.Machine.execAddR16Rm16 r m s
  | .addAlImm8 v => Sys2Proof.Machine.execAddAlImm8 v s
  | .addAxImm16 v => Sys2Proof.Machine.execAddAxImm16 v s
  | .orRm8R8 m r => Sys2Proof.Machine.execOrRm8R8 m r s
  | .orRm16R16 m r => Sys2Proof.Machine.execOrRm16R16 m r s
  | .orR8Rm8 r m => Sys2Proof.Machine.execOrR8Rm8 r m s
  | .orR16Rm16 r m => Sys2Proof.Machine.execOrR16Rm16 r m s
  | .orAlImm8 v => Sys2Proof.Machine.execOrAlImm8 v s
  | .orAxImm16 v => Sys2Proof.Machine.execOrAxImm16 v s
  | .adcRm8R8 m r => Sys2Proof.Machine.execAdcRm8R8 m r s
  | .adcRm16R16 m r => Sys2Proof.Machine.execAdcRm16R16 m r s
  | .adcR8Rm8 r m => Sys2Proof.Machine.execAdcR8Rm8 r m s
  | .adcR16Rm16 r m => Sys2Proof.Machine.execAdcR16Rm16 r m s
  | .adcAlImm8 v => Sys2Proof.Machine.execAdcAlImm8 v s
  | .adcAxImm16 v => Sys2Proof.Machine.execAdcAxImm16 v s
  | .sbbRm8R8 m r => Sys2Proof.Machine.execSbbRm8R8 m r s
  | .sbbRm16R16 m r => Sys2Proof.Machine.execSbbRm16R16 m r s
  | .sbbR8Rm8 r m => Sys2Proof.Machine.execSbbR8Rm8 r m s
  | .sbbR16Rm16 r m => Sys2Proof.Machine.execSbbR16Rm16 r m s
  | .sbbAlImm8 v => Sys2Proof.Machine.execSbbAlImm8 v s
  | .sbbAxImm16 v => Sys2Proof.Machine.execSbbAxImm16 v s
  | .andRm8R8 m r => Sys2Proof.Machine.execAndRm8R8 m r s
  | .andRm16R16 m r => Sys2Proof.Machine.execAndRm16R16 m r s
  | .andR8Rm8 r m => Sys2Proof.Machine.execAndR8Rm8 r m s
  | .andR16Rm16 r m => Sys2Proof.Machine.execAndR16Rm16 r m s
  | .andAlImm8 v => Sys2Proof.Machine.execAndAlImm8 v s
  | .andAxImm16 v => Sys2Proof.Machine.execAndAxImm16 v s
  | .subRm8R8 m r => Sys2Proof.Machine.execSubRm8R8 m r s
  | .subRm16R16 m r => Sys2Proof.Machine.execSubRm16R16 m r s
  | .subR8Rm8 r m => Sys2Proof.Machine.execSubR8Rm8 r m s
  | .subR16Rm16 r m => Sys2Proof.Machine.execSubR16Rm16 r m s
  | .subAlImm8 v => Sys2Proof.Machine.execSubAlImm8 v s
  | .subAxImm16 v => Sys2Proof.Machine.execSubAxImm16 v s
  | .xorRm8R8 m r => Sys2Proof.Machine.execXorRm8R8 m r s
  | .xorRm16R16 m r => Sys2Proof.Machine.execXorRm16R16 m r s
  | .xorR8Rm8 r m => Sys2Proof.Machine.execXorR8Rm8 r m s
  | .xorR16Rm16 r m => Sys2Proof.Machine.execXorR16Rm16 r m s
  | .xorAlImm8 v => Sys2Proof.Machine.execXorAlImm8 v s
  | .xorAxImm16 v => Sys2Proof.Machine.execXorAxImm16 v s
  | .cmpRm8R8 m r => Sys2Proof.Machine.execCmpRm8R8 m r s
  | .cmpRm16R16 m r => Sys2Proof.Machine.execCmpRm16R16 m r s
  | .cmpR8Rm8 r m => Sys2Proof.Machine.execCmpR8Rm8 r m s
  | .cmpR16Rm16 r m => Sys2Proof.Machine.execCmpR16Rm16 r m s
  | .cmpAlImm8 v => Sys2Proof.Machine.execCmpAlImm8 v s
  | .cmpAxImm16 v => Sys2Proof.Machine.execCmpAxImm16 v s
  | .incR16 r => Sys2Proof.Machine.execIncR16 r s
  | .decR16 r => Sys2Proof.Machine.execDecR16 r s
  | .pushR16 r => Sys2Proof.Machine.execPushR16 r s
  | .popR16 r => Sys2Proof.Machine.execPopR16 r s
  | .jo rel => Sys2Proof.Machine.execJo rel s
  | .jno rel => Sys2Proof.Machine.execJno rel s
  | .jb rel => Sys2Proof.Machine.execJb rel s
  | .jae rel => Sys2Proof.Machine.execJae rel s
  | .je rel => Sys2Proof.Machine.execJe rel s
  | .jne rel => Sys2Proof.Machine.execJne rel s
  | .jbe rel => Sys2Proof.Machine.execJbe rel s
  | .ja rel => Sys2Proof.Machine.execJa rel s
  | .js rel => Sys2Proof.Machine.execJs rel s
  | .jns rel => Sys2Proof.Machine.execJns rel s
  | .jp rel => Sys2Proof.Machine.execJp rel s
  | .jnp rel => Sys2Proof.Machine.execJnp rel s
  | .jl rel => Sys2Proof.Machine.execJl rel s
  | .jge rel => Sys2Proof.Machine.execJge rel s
  | .jle rel => Sys2Proof.Machine.execJle rel s
  | .jg rel => Sys2Proof.Machine.execJg rel s
  | .addRm8Imm8 m v => Sys2Proof.Machine.execAddRm8Imm8 m v s
  | .addRm16Imm16 m v => Sys2Proof.Machine.execAddRm16Imm16 m v s
  | .addRm8Imm8Alt m v => Sys2Proof.Machine.execAddRm8Imm8Alt m v s
  | .addRm16SImm8 m v => Sys2Proof.Machine.execAddRm16SImm8 m v s
  | .orRm8Imm8 m v => Sys2Proof.Machine.execOrRm8Imm8 m v s
  | .orRm16Imm16 m v => Sys2Proof.Machine.execOrRm16Imm16 m v s
  | .adcRm8Imm8 m v => Sys2Proof.Machine.execAdcRm8Imm8 m v s
  | .adcRm16Imm16 m v => Sys2Proof.Machine.execAdcRm16Imm16 m v s
  | .adcRm8Imm8Alt m v => Sys2Proof.Machine.execAdcRm8Imm8Alt m v s
  | .adcRm16SImm8 m v => Sys2Proof.Machine.execAdcRm16SImm8 m v s
  | .sbbRm8Imm8 m v => Sys2Proof.Machine.execSbbRm8Imm8 m v s
  | .sbbRm16Imm16 m v => Sys2Proof.Machine.execSbbRm16Imm16 m v s
  | .sbbRm8Imm8Alt m v => Sys2Proof.Machine.execSbbRm8Imm8Alt m v s
  | .sbbRm16SImm8 m v => Sys2Proof.Machine.execSbbRm16SImm8 m v s
  | .andRm8Imm8 m v => Sys2Proof.Machine.execAndRm8Imm8 m v s
  | .andRm16Imm16 m v => Sys2Proof.Machine.execAndRm16Imm16 m v s
  | .subRm8Imm8 m v => Sys2Proof.Machine.execSubRm8Imm8 m v s
  | .subRm16Imm16 m v => Sys2Proof.Machine.execSubRm16Imm16 m v s
  | .subRm8Imm8Alt m v => Sys2Proof.Machine.execSubRm8Imm8Alt m v s
  | .subRm16SImm8 m v => Sys2Proof.Machine.execSubRm16SImm8 m v s
  | .xorRm8Imm8 m v => Sys2Proof.Machine.execXorRm8Imm8 m v s
  | .xorRm16Imm16 m v => Sys2Proof.Machine.execXorRm16Imm16 m v s
  | .cmpRm8Imm8 m v => Sys2Proof.Machine.execCmpRm8Imm8 m v s
  | .cmpRm16Imm16 m v => Sys2Proof.Machine.execCmpRm16Imm16 m v s
  | .cmpRm8Imm8Alt m v => Sys2Proof.Machine.execCmpRm8Imm8Alt m v s
  | .cmpRm16SImm8 m v => Sys2Proof.Machine.execCmpRm16SImm8 m v s
  | .testRm8R8 m r => Sys2Proof.Machine.execTestRm8R8 m r s
  | .testRm16R16 m r => Sys2Proof.Machine.execTestRm16R16 m r s
  | .xchgR8Rm8 r m => Sys2Proof.Machine.execXchgR8Rm8 r m s
  | .xchgR16Rm16 r m => Sys2Proof.Machine.execXchgR16Rm16 r m s
  | .movRm8R8 m r => Sys2Proof.Machine.execMovRm8R8 m r s
  | .movRm16R16 m r => Sys2Proof.Machine.execMovRm16R16 m r s
  | .movR8Rm8 r m => Sys2Proof.Machine.execMovR8Rm8 r m s
  | .movR16Rm16 r m => Sys2Proof.Machine.execMovR16Rm16 r m s
  | .movRm16Sreg m r => Sys2Proof.Machine.execMovRm16Sreg m r s
  | .lea r m => Sys2Proof.Machine.execLea r m s
  | .movEsRm16 m => Sys2Proof.Machine.execMovEsRm16 m s
  | .movSsRm16 m => Sys2Proof.Machine.execMovSsRm16 m s
  | .movDsRm16 m => Sys2Proof.Machine.execMovDsRm16 m s
  | .popRm16 m => Sys2Proof.Machine.execPopRm16 m s
  | .callFar off seg => Sys2Proof.Machine.execCallFar off seg s
  | .movAlAddr a => Sys2Proof.Machine.execMovAlAddr a s
  | .movAxAddr a => Sys2Proof.Machine.execMovAxAddr a s
  | .movAddrAl a => Sys2Proof.Machine.execMovAddrAl a s
  | .movAddrAx a => Sys2Proof.Machine.execMovAddrAx a s
  | .testAlImm8 v => Sys2Proof.Machine.execTestAlImm8 v s
  | .testAxImm16 v => Sys2Proof.Machine.execTestAxImm16 v s
  | .movR8Imm8 r v => Sys2Proof.Machine.execMovR8Imm8 r v s
  | .movR16Imm16 r v => Sys2Proof.Machine.execMovR16Imm16 r v s
  | .retNearN n => Sys2Proof.Machine.execRetNearN n s
  | .les r m => Sys2Proof.Machine.execLes r m s
  | .lds r m => Sys2Proof.Machine.execLds r m s
  | .movRm8Imm8 m v => Sys2Proof.Machine.execMovRm8Imm8 m v s
  | .movRm16Imm16 m v => Sys2Proof.Machine.execMovRm16Imm16 m v s
  | .retFarN n => Sys2Proof.Machine.execRetFarN n s
  | .intN t => Sys2Proof.Machine.execIntN t s
  | .rolRm8One m => Sys2Proof.Machine.execRolRm8One m s
  | .rorRm8One m => Sys2Proof.Machine.execRorRm8One m s
  | .rclRm8One m => Sys2Proof.Machine.execRclRm8One m s
  | .rcrRm8One m => Sys2Proof.Machine.execRcrRm8One m s
  | .shlRm8One m => Sys2Proof.Machine.execShlRm8One m s
  | .shrRm8One m => Sys2Proof.Machine.execShrRm8One m s
  | .sarRm8One m => Sys2Proof.Machine.execSarRm8One m s
  | .rolRm16One m => Sys2Proof.Machine.execRolRm16One m s
  | .rorRm16One m => Sys2Proof.Machine.execRorRm16One m s
  | .rclRm16One m => Sys2Proof.Machine.execRclRm16One m s
  | .rcrRm16One m => Sys2Proof.Machine.execRcrRm16One m s
  | .shlRm16One m => Sys2Proof.Machine.execShlRm16One m s
  | .shrRm16One m => Sys2Proof.Machine.execShrRm16One m s
  | .sarRm16One m => Sys2Proof.Machine.execSarRm16One m s
  | .rolRm8Cl m => Sys2Proof.Machine.execRolRm8Cl m s
  | .rorRm8Cl m => Sys2Proof.Machine.execRorRm8Cl m s
  | .rclRm8Cl m => Sys2Proof.Machine.execRclRm8Cl m s
  | .rcrRm8Cl m => Sys2Proof.Machine.execRcrRm8Cl m s
  | .shlRm8Cl m => Sys2Proof.Machine.execShlRm8Cl m s
  | .shrRm8Cl m => Sys2Proof.Machine.execShrRm8Cl m s
  | .sarRm8Cl m => Sys2Proof.Machine.execSarRm8Cl m s
  | .rolRm16Cl m => Sys2Proof.Machine.execRolRm16Cl m s
  | .rorRm16Cl m => Sys2Proof.Machine.execRorRm16Cl m s
  | .rclRm16Cl m => Sys2Proof.Machine.execRclRm16Cl m s
  | .rcrRm16Cl m => Sys2Proof.Machine.execRcrRm16Cl m s
  | .shlRm16Cl m => Sys2Proof.Machine.execShlRm16Cl m s
  | .shrRm16Cl m => Sys2Proof.Machine.execShrRm16Cl m s
  | .sarRm16Cl m => Sys2Proof.Machine.execSarRm16Cl m s
  | .esc hi lo m => Sys2Proof.Machine.execEsc hi lo m s
  | .loopne rel => Sys2Proof.Machine.execLoopne rel s
  | .loope rel => Sys2Proof.Machine.execLoope rel s
  | .loop rel => Sys2Proof.Machine.execLoop rel s
  | .jcxz rel => Sys2Proof.Machine.execJcxz rel s
  | .inAlPort p => Sys2Proof.Machine.execInAlPort p s
  | .inAxPort p => Sys2Proof.Machine.execInAxPort p s
  | .outPortAl p => Sys2Proof.Machine.execOutPortAl p s
  | .outPortAx p => Sys2Proof.Machine.execOutPortAx p s
  | .callNear rel => Sys2Proof.Machine.execCallNear rel s
  | .jmpNear rel => Sys2Proof.Machine.execJmpNear rel s
  | .jmpFar off seg => Sys2Proof.Machine.execJmpFar off seg s
  | .jmpShort rel => Sys2Proof.Machine.execJmpShort rel s
  | .testRm8Imm8 m v => Sys2Proof.Machine.execTestRm8Imm8 m v s
  | .notRm8 m => Sys2Proof.Machine.execNotRm8 m s
  | .negRm8 m => Sys2Proof.Machine.execNegRm8 m s
  | .mulRm8 m => Sys2Proof.Machine.execMulRm8 m s
  | .imulRm8 m => Sys2Proof.Machine.execImulRm8 m s
  | .divRm8 m => Sys2Proof.Machine.execDivRm8 m s
  | .idivRm8 m => Sys2Proof.Machine.execIdivRm8 m s
  | .testRm16Imm16 m v => Sys2Proof.Machine.execTestRm16Imm16 m v s
  | .notRm16 m => Sys2Proof.Machine.execNotRm16 m s
  | .negRm16 m => Sys2Proof.Machine.execNegRm16 m s
  | .mulRm16 m => Sys2Proof.Machine.execMulRm16 m s
  | .imulRm16 m => Sys2Proof.Machine.execImulRm16 m s
  | .divRm16 m => Sys2Proof.Machine.execDivRm16 m s
  | .idivRm16 m => Sys2Proof.Machine.execIdivRm16 m s
  | .incRm8 m => Sys2Proof.Machine.execIncRm8 m s
  | .decRm8 m => Sys2Proof.Machine.execDecRm8 m s
  | .incRm16 m => Sys2Proof.Machine.execIncRm16 m s
  | .decRm16 m => Sys2Proof.Machine.execDecRm16 m s
  | .callRm16 m => Sys2Proof.Machine.execCallRm16 m s
  | .callMem m => Sys2Proof.Machine.execCallMem m s
  | .jmpRm16 m => Sys2Proof.Machine.execJmpRm16 m s
  | .jmpMem m => Sys2Proof.Machine.execJmpMem m s
  | .pushRm16 m => Sys2Proof.Machine.execPushRm16 m s
  | .pushEs => Sys2Proof.Machine.execPushEs s
  | .popEs => Sys2Proof.Machine.execPopEs s
  | .overrideEs => Sys2Proof.Machine.execOverrideEs s
  | .pushCs => Sys2Proof.Machine.execPushCs s
  | .overrideCs => Sys2Proof.Machine.execOverrideCs s
  | .pushSs => Sys2Proof.Machine.execPushSs s
  | .popSs => Sys2Proof.Machine.execPopSs s
  | .overrideSs => Sys2Proof.Machine.execOverrideSs s
  | .pushDs => Sys2Proof.Machine.execPushDs s
  | .popDs => Sys2Proof.Machine.execPopDs s
  | .overrideDs => Sys2Proof.Machine.execOverrideDs s
  | .daa => Sys2Proof.Machine.execDaa s
  | .das => Sys2Proof.Machine.execDas s
  | .aaa => Sys2Proof.Machine.execAaa s
  | .aas => Sys2Proof.Machine.execAas s
  | .nop => Sys2Proof.Machine.execNop s
  | .xchgAxCx => Sys2Proof.Machine.execXchgAxCx s
  | .xchgAxDx => Sys2Proof.Machine.execXchgAxDx s
  | .xchgAxBx => Sys2Proof.Machine.execXchgAxBx s
  | .xchgAxSp => Sys2Proof.Machine.execXchgAxSp s
  | .xchgAxBp => Sys2Proof.Machine.execXchgAxBp s
  | .xchgAxSi => Sys2Proof.Machine.execXchgAxSi s
  | .xchgAxDi => Sys2Proof.Machine.execXchgAxDi s
  | .cbw => Sys2Proof.Machine.execCbw s
  | .cwd => Sys2Proof.Machine.execCwd s
  | .wait => Sys2Proof.Machine.execWait s
  | .pushf => Sys2Proof.Machine.execPushf s
  | .popf => Sys2Proof.Machine.execPopf s
  | .sahf => Sys2Proof.Machine.execSahf s
  | .lahf => Sys2Proof.Machine.execLahf s
  | .movsb => Sys2Proof.Machine.execMovsb s
  | .movsw => Sys2Proof.Machine.execMovsw s
  | .cmpsb => Sys2Proof.Machine.execCmpsb s
  | .cmpsw => Sys2Proof.Machine.execCmpsw s
  | .stosb => Sys2Proof.Machine.execStosb s
  | .stosw => Sys2Proof.Machine.execStosw s
  | .lodsb => Sys2Proof.Machine.execLodsb s
  | .lodsw => Sys2Proof.Machine.execLodsw s
  | .scasb => Sys2Proof.Machine.execScasb s
  | .scasw => Sys2Proof.Machine.execScasw s
  | .retNear => Sys2Proof.Machine.execRetNear s
  | .retFar => Sys2Proof.Machine.execRetFar s
  | .int3 => Sys2Proof.Machine.execInt3 s
  | .into => Sys2Proof.Machine.execInto s
  | .iret => Sys2Proof.Machine.execIret s
  | .aam => Sys2Proof.Machine.execAam s
  | .aad => Sys2Proof.Machine.execAad s
  | .xlat => Sys2Proof.Machine.execXlat s
  | .inAlDx => Sys2Proof.Machine.execInAlDx s
  | .inAxDx => Sys2Proof.Machine.execInAxDx s
  | .outDxAl => Sys2Proof.Machine.execOutDxAl s
  | .outDxAx => Sys2Proof.Machine.execOutDxAx s
  | .lockPrefix => Sys2Proof.Machine.execLockPrefix s
  | .repne => Sys2Proof.Machine.execRepne s
  | .rep => Sys2Proof.Machine.execRep s
  | .hlt => Sys2Proof.Machine.execHlt s
  | .cmc => Sys2Proof.Machine.execCmc s
  | .clc => Sys2Proof.Machine.execClc s
  | .stc => Sys2Proof.Machine.execStc s
  | .cli => Sys2Proof.Machine.execCli s
  | .sti => Sys2Proof.Machine.execSti s
  | .cld => Sys2Proof.Machine.execCld s
  | .std => Sys2Proof.Machine.execStd s

end Sys2Proof.Machine
end

