-- ==== Sys2Proof/Machine/Run.lean ====
section
/-!
DEFINITION. What the machine does in one step while no reset comes: the halt state, one more piece of an instruction in
progress, or the next instruction.
-/
namespace Sys2Proof.Machine

/-- What the machine does in one step while CLR is inactive. -/
def run (s : State) : Result :=
  if s.halted then .next (s.boundary false)
  else
    match s.inProgress with
    | some i => settle i s.flags.tf (exec i { s with inProgress := none })
    | none =>
      match s.fetch with
      | .error .truncated => .refused .fetchOutsideMemory
      | .error e => .refused (.undefinedEncoding e)
      | .ok (i, t) =>
        if s.misplacedRepeat i then .refused .repeatBeforeNonString else settle i s.flags.tf (exec i t)

end Sys2Proof.Machine
end

