-- ==== Sys2Proof/Machine/Step.lean ====
section
/-!
DEFINITION. One step of the machine: a reset, or one run (Run.lean); and the placing of an instruction where the step fetches
it.
-/
namespace Sys2Proof.Machine

/-- One step: CLR may be active at its start or become active inside it (R400); otherwise it runs to its end, if something
answers each of its bus cycles (R78). -/
def step (s : State) : Host.Outcome State Fault Refusal :=
  if s.pins.clr then .next s.resetEvent
  else if s.pins.clrInside then s.abandon (run s)
  else s.complete (run s)

/-- The instruction with the bits `w` (assumption log 24) stored at CS:IP, ready to run as the next step: no reset, no halt, no
prefix and nothing in progress. -/
def State.withFetchWord (s : State) (nbits w : Nat) : State :=
  { s.placeCode 0 (tableBytes nbits w) with
    pins := { s.pins with clr := false, clrInside := false }
    halted := false
    inProgress := none
    pfx := Prefixes.none
    queue := []
    ahead := 0 }

end Sys2Proof.Machine
end

