-- ==== Sys2Proof/Safety.lean ====
section
/-!
DEFINITION. What every state between two steps satisfies: the invariant the statements use.
-/
namespace Sys2Proof.Machine

/-- What may be in progress between two steps: a repeated string instruction with elements to go (R302), or WAIT (R328). -/
def State.progressOk (s : State) : Prop :=
  match s.inProgress with
  | none => True
  | some i => (isString i = true ∧ s.pfx.rep ≠ none ∧ s.regs.cx ≠ 0) ∨ i = .wait

/-- The invariant: memory is in canonical form; the queue holds only next code bytes, at most QUEUE_LEN (R50, R92); the notes
for the boundary are cleared; a halted machine has no prefix and nothing in progress (R53); what is in progress is one of
the two long instructions (R365). -/
structure State.Inv (s : State) : Prop where
  memory : s.mem.wf = true
  queue : ∀ c ∈ s.queue, s.inWindow c.1 = true
  ahead : s.ahead ≤ s.params.queueLen
  shadow : s.shadow = false
  raised : s.raised = false
  halt : s.halted = true → s.inProgress = none ∧ s.pfx = Prefixes.none
  progress : s.progressOk

/-- A state in which the next step fetches an instruction: no reset, no halt, nothing in progress. -/
def State.ready (s : State) : Prop := s.pins.clr = false ∧ s.pins.clrInside = false ∧ s.halted = false ∧ s.inProgress = none

end Sys2Proof.Machine
end

