-- ==== Sys2Proof/Certificates/Slice0/Obligations.lean ====
section
/-!
DEFINITION. The statements for the provers. Namespace `Sys2Proof.Spec` holds the predicates they share: the results of the spec
as numbers and bits, and the frame with the bus cycles. Memory holds what was written only if it is canonical, so `mem.wf`, a
part of the invariant `State.Inv` (statements InvReset, InvStep), is a premise wherever a statement speaks of a stored value; a
value stored at a device or read from one is on the bus (R76, log 3). The place of the high byte of a word at offset FFFFh is
`highAddr`, that of the second word of a double word `secondSegment`, each free between two places there (R72, log 7).
-/
namespace Sys2Proof.Spec
open Sys2Proof.Machine

/-! ## Frames -/

/-- The segment registers are unchanged. -/
def Segs (s t : State) : Prop := t.es = s.es ∧ t.cs = s.cs ∧ t.ss = s.ss ∧ t.ds = s.ds

/-- The halt state, the inputs, the platform, the parameters, the prefixes, what is in progress, the note of a raised interrupt
and the record of fetch cycles are unchanged. -/
def Inner (s t : State) : Prop :=
  t.halted = s.halted ∧ t.pins = s.pins ∧ t.platform = s.platform ∧ t.params = s.params ∧ t.pfx = s.pfx ∧
    t.inProgress = s.inProgress ∧
    t.start = s.start ∧ t.raised = s.raised ∧ t.fetches = s.fetches

/-- Nothing outside the general registers, the flags and memory is written, and the bus cycles made are `cs`, newest first (R86,
R417; that they are recorded in `bus` is the model's form, log 10). -/
def Frame (cs : List BusCycle) (s t : State) : Prop :=
  Segs s t ∧ Inner s t ∧ t.ip = s.ip ∧ t.shadow = s.shadow ∧ t.bus = cs ++ s.bus

/-- Every general register is unchanged. -/
def RegsKept (s t : State) : Prop := ∀ r, t.reg16 r = s.reg16 r

/-- Every general register but `q` is unchanged. -/
def RegsKeptBut (q : Reg16) (s t : State) : Prop := ∀ r, r ≠ q → t.reg16 r = s.reg16 r

/-- Every byte of memory is as before. -/
def MemoryKept (s t : State) : Prop := ∀ a, t.memoryByte a = s.memoryByte a

/-- DF, IF and TF are unchanged. -/
def ControlFlags (f g : Flags) : Prop := g.df = f.df ∧ g.ifl = f.ifl ∧ g.tf = f.tf

/-! ## Bus cycles (R72, R75, R417), each with the LOCK output (R89) -/

/-- A lock reaches the LOCK output: the configuration has it (R381), and this is no window of a repeated string instruction
(92_eei_decisions.md D38). -/
def lockable (s : State) : Bool :=
  decide (s.params.configuration = .maximum ∧ (s.pfx.rep = none ∨ s.inProgress = none))

/-- The LOCK output: the LOCK prefix is in force and reaches it (R89, R329). -/
def lockOn (s : State) : Bool := s.pfx.lock && lockable s

/-- The bus cycles of the word `v` at `seg:off`, newest first: one at an even address, else two, low byte first. -/
def wordCycles (lock : Bool) (d : Direction) (seg off v : Word) : List BusCycle :=
  if off.toNat % 2 = 0 then [⟨d, .memory (physAddr seg off), .word v, lock⟩]
  else [⟨d, .memory (highAddr seg off), .byte (v.extractLsb' 8 8), lock⟩,
    ⟨d, .memory (physAddr seg off), .byte (v.setWidth 8), lock⟩]

/-- The bus cycles of the byte `v` at a place: none for a register. -/
def cycles8 (lock : Bool) (d : Direction) : Loc8 → Byte → List BusCycle
  | .reg _, _ => []
  | .mem seg off, v => [⟨d, .memory (physAddr seg off), .byte v, lock⟩]

/-- The bus cycles of the word `v` at a place: none for a register. -/
def cycles16 (lock : Bool) (d : Direction) : Loc16 → Word → List BusCycle
  | .reg _, _ => []
  | .mem seg off, v => wordCycles lock d seg off v

/-- The bus cycles of reading a byte place. -/
def reads8 (s : State) (l : Loc8) : List BusCycle := cycles8 (lockOn s) .read l (s.get8 l)

/-- The bus cycles of reading a word place. -/
def reads16 (s : State) (l : Loc16) : List BusCycle := cycles16 (lockOn s) .read l (s.get16 l)

/-! ## Places -/

/-- The bytes of memory a byte place covers. -/
def covers8 (s : State) : Loc8 → PhysAddr → Prop
  | .reg _, _ => False
  | .mem seg off, a => s.isMemory a = true ∧ a = physAddr seg off

/-- The bytes of memory a word place covers: those of the two the meaning stores to that are memory. -/
def covers16 (s : State) : Loc16 → PhysAddr → Prop
  | .reg _, _ => False
  | .mem seg off, a => s.isMemory a = true ∧ (a = physAddr seg off ∨ a = highAddr seg off)

/-- The word at `seg:off` lies in plain memory. -/
def PlainWord (s : State) (seg off : Word) : Prop :=
  s.isMemory (physAddr seg off) = true ∧ s.isMemory (highAddr seg off) = true

/-- The bytes of `v` stand at `seg:off`, each where there is plain memory (a device took the others, R76). -/
def StoredWord (t : State) (seg off v : Word) : Prop :=
  (t.isMemory (physAddr seg off) = true → t.memoryByte (physAddr seg off) = v.setWidth 8) ∧
    (t.isMemory (highAddr seg off) = true → t.memoryByte (highAddr seg off) = v.extractLsb' 8 8)

/-- A byte place holds `v` (memory, where there is plain memory). -/
def Holds8 (t : State) : Loc8 → Byte → Prop
  | .reg r, v => t.reg8 r = v
  | .mem seg off, v => t.isMemory (physAddr seg off) = true → t.memoryByte (physAddr seg off) = v

/-- A word place holds `v` (memory, where there is plain memory). -/
def Holds16 (t : State) : Loc16 → Word → Prop
  | .reg r, v => t.reg16 r = v
  | .mem seg off, v => StoredWord t seg off v

/-- `v` was written at the byte place `l` and nowhere else in the registers and memory. -/
structure Written8 (s t : State) (l : Loc8) (v : Byte) : Prop where
  value : Holds8 t l v
  bytes : ∀ r, l ≠ .reg r → t.reg8 r = s.reg8 r
  words : t.regs.sp = s.regs.sp ∧ t.regs.bp = s.regs.bp ∧ t.regs.si = s.regs.si ∧ t.regs.di = s.regs.di
  memory : ∀ a, ¬ covers8 s l a → t.memoryByte a = s.memoryByte a

/-- `v` was written at the word place `l` and nowhere else in the registers and memory. -/
structure Written16 (s t : State) (l : Loc16) (v : Word) : Prop where
  value : Holds16 t l v
  words : ∀ r, l ≠ .reg r → t.reg16 r = s.reg16 r
  memory : ∀ a, ¬ covers16 s l a → t.memoryByte a = s.memoryByte a

/-- The instruction runs, makes the bus cycles `cs`, then writes at the byte place `l` a value with property `R`, and leaves
flags with property `F`. -/
def Runs8 (s : State) (i : Instr) (cs : List BusCycle) (l : Loc8) (R : Byte → Prop) (F : Byte → Flags → Prop) : Prop :=
  ∃ t v, exec i s = .next t ∧ Written8 s t l v ∧ R v ∧ F v t.flags ∧ Frame (cycles8 (lockOn s) .write l v ++ cs) s t

/-- The same at a word place. -/
def Runs16 (s : State) (i : Instr) (cs : List BusCycle) (l : Loc16) (R : Word → Prop) (F : Word → Flags → Prop) : Prop :=
  ∃ t v, exec i s = .next t ∧ Written16 s t l v ∧ R v ∧ F v t.flags ∧ Frame (cycles16 (lockOn s) .write l v ++ cs) s t

/-- The instruction runs, makes the bus cycles `cs`, and writes flags alone, with property `F`. -/
def RunsFlags (s : State) (i : Instr) (cs : List BusCycle) (F : Flags → Prop) : Prop :=
  ∃ t, exec i s = .next t ∧ F t.flags ∧ RegsKept s t ∧ MemoryKept s t ∧ Frame cs s t

/-! ## Flags -/

/-- An even number of ones in bits 7 to 0 (R35). -/
def evenOnes {w : Nat} (v : BitVec w) : Prop := ((List.range 8).filter fun k => v.getLsbD k).length % 2 = 0

/-- ZF, SF and PF of a result (R35, R38, R39); PF is PF_EVEN for an even number of ones (R7). -/
def ResultFlags {w : Nat} (s : State) (v : BitVec w) (g : Flags) : Prop :=
  (g.zf = true ↔ v.toNat = 0) ∧ (g.sf = true ↔ 2 ^ (w - 1) ≤ v.toNat) ∧
    (g.pf = true ↔ (evenOnes v ↔ s.params.pfEven = true))

/-- A signed value outside `w` bits (R40). -/
def OutOfRange (w : Nat) (x : Int) : Prop := x < -(2 ^ (w - 1)) ∨ 2 ^ (w - 1) ≤ x

/-- OF, AF, ZF, SF, PF after a + b + c, DF, IF, TF kept (R44, R40). -/
def SumFlags {w : Nat} (s : State) (a b : BitVec w) (c : Nat) (v : BitVec w) (g : Flags) : Prop :=
  (g.of = true ↔ OutOfRange w (a.toInt + b.toInt + c)) ∧ (g.af = true ↔ 16 ≤ a.toNat % 16 + b.toNat % 16 + c) ∧
    ResultFlags s v g ∧ ControlFlags s.flags g

/-- OF, AF, ZF, SF, PF after a - b - c, DF, IF, TF kept (R45, R40). -/
def DifferenceFlags {w : Nat} (s : State) (a b : BitVec w) (c : Nat) (v : BitVec w) (g : Flags) : Prop :=
  (g.of = true ↔ OutOfRange w (a.toInt - b.toInt - c)) ∧ (g.af = true ↔ a.toNat % 16 < b.toNat % 16 + c) ∧
    ResultFlags s v g ∧ ControlFlags s.flags g

/-- CF and OF 0, ZF, SF, PF of the result, DF, IF, TF kept, AF anything (R46). -/
def LogicFlags {w : Nat} (s : State) (v : BitVec w) (g : Flags) : Prop :=
  g.cf = false ∧ g.of = false ∧ ResultFlags s v g ∧ ControlFlags s.flags g

/-! ## Arithmetic and logic -/

/-- Adding `b`, read by the bus cycles `src`, and a carry at a byte place, CF included (R182, R183). -/
def Adds8 (s : State) (c : Bool) (i : Instr) (l : Loc8) (b : Byte) (src : List BusCycle) : Prop :=
  Runs8 s i (reads8 s l ++ src) l
    (fun v => v.toNat = ((s.get8 l).toNat + b.toNat + c.toNat) % 2 ^ 8) fun v g =>
    SumFlags s (s.get8 l) b c.toNat v g ∧ (g.cf = true ↔ 2 ^ 8 ≤ (s.get8 l).toNat + b.toNat + c.toNat)

/-- Adding `b` and a carry at a word place. -/
def Adds16 (s : State) (c : Bool) (i : Instr) (l : Loc16) (b : Word) (src : List BusCycle) : Prop :=
  Runs16 s i (reads16 s l ++ src) l
    (fun v => v.toNat = ((s.get16 l).toNat + b.toNat + c.toNat) % 2 ^ 16) fun v g =>
    SumFlags s (s.get16 l) b c.toNat v g ∧ (g.cf = true ↔ 2 ^ 16 ≤ (s.get16 l).toNat + b.toNat + c.toNat)

/-- Subtracting `b` and a borrow at a byte place, CF included (R185, R186). -/
def Subtracts8 (s : State) (c : Bool) (i : Instr) (l : Loc8) (b : Byte) (src : List BusCycle) : Prop :=
  Runs8 s i (reads8 s l ++ src) l
    (fun v => v.toNat = (2 ^ 8 + (s.get8 l).toNat - b.toNat - c.toNat) % 2 ^ 8) fun v g =>
    DifferenceFlags s (s.get8 l) b c.toNat v g ∧ (g.cf = true ↔ (s.get8 l).toNat < b.toNat + c.toNat)

/-- Subtracting `b` and a borrow at a word place. -/
def Subtracts16 (s : State) (c : Bool) (i : Instr) (l : Loc16) (b : Word) (src : List BusCycle) : Prop :=
  Runs16 s i (reads16 s l ++ src) l
    (fun v => v.toNat = (2 ^ 16 + (s.get16 l).toNat - b.toNat - c.toNat) % 2 ^ 16) fun v g =>
    DifferenceFlags s (s.get16 l) b c.toNat v g ∧ (g.cf = true ↔ (s.get16 l).toNat < b.toNat + c.toNat)

/-- Comparing the byte at `l` with `b`: the flags of the difference, nothing written back (R189). -/
def Compares8 (s : State) (i : Instr) (l : Loc8) (b : Byte) (src : List BusCycle) : Prop :=
  RunsFlags s i (reads8 s l ++ src) fun g => ∃ v : Byte, v.toNat = (2 ^ 8 + (s.get8 l).toNat - b.toNat) % 2 ^ 8 ∧
    DifferenceFlags s (s.get8 l) b 0 v g ∧ (g.cf = true ↔ (s.get8 l).toNat < b.toNat)

/-- Comparing the word at `l` with `b`. -/
def Compares16 (s : State) (i : Instr) (l : Loc16) (b : Word) (src : List BusCycle) : Prop :=
  RunsFlags s i (reads16 s l ++ src) fun g => ∃ v : Word, v.toNat = (2 ^ 16 + (s.get16 l).toNat - b.toNat) % 2 ^ 16 ∧
    DifferenceFlags s (s.get16 l) b 0 v g ∧ (g.cf = true ↔ (s.get16 l).toNat < b.toNat)

/-- A bitwise operation at a byte place (R221 to R223). -/
def Combines8 (op : Bool → Bool → Bool) (s : State) (i : Instr) (l : Loc8) (b : Byte)
    (src : List BusCycle) : Prop :=
  Runs8 s i (reads8 s l ++ src) l
    (fun v => ∀ k < 8, v.getLsbD k = op ((s.get8 l).getLsbD k) (b.getLsbD k)) fun v g => LogicFlags s v g

/-- A bitwise operation at a word place. -/
def Combines16 (op : Bool → Bool → Bool) (s : State) (i : Instr) (l : Loc16) (b : Word)
    (src : List BusCycle) : Prop :=
  Runs16 s i (reads16 s l ++ src) l
    (fun v => ∀ k < 16, v.getLsbD k = op ((s.get16 l).getLsbD k) (b.getLsbD k)) fun v g =>
    LogicFlags s v g

/-- The flags of the conjunction of the byte at `l` and `b`, nothing written back (R224). -/
def Tests8 (s : State) (i : Instr) (l : Loc8) (b : Byte) : Prop :=
  RunsFlags s i (reads8 s l) fun g => ∃ v : Byte, (∀ k < 8, v.getLsbD k = ((s.get8 l).getLsbD k && b.getLsbD k)) ∧
    LogicFlags s v g

/-- The flags of the conjunction of the word at `l` and `b`. -/
def Tests16 (s : State) (i : Instr) (l : Loc16) (b : Word) : Prop :=
  RunsFlags s i (reads16 s l) fun g => ∃ v : Word, (∀ k < 16, v.getLsbD k = ((s.get16 l).getLsbD k && b.getLsbD k)) ∧
    LogicFlags s v g

/-- The six forms of R121 and R181: r/m with register, register with r/m, accumulator with immediate. -/
def SixForms (s : State) (P : Instr → Loc8 → Byte → List BusCycle → Prop)
    (Q : Instr → Loc16 → Word → List BusCycle → Prop)
    (f1 : Rm8 → Reg8 → Instr) (f2 : Rm16 → Reg16 → Instr) (f3 : Reg8 → Rm8 → Instr) (f4 : Reg16 → Rm16 → Instr)
    (f5 : Byte → Instr) (f6 : Word → Instr) : Prop :=
  (∀ m r, P (f1 m r) (s.loc8 m) (s.reg8 r) []) ∧ (∀ m r, Q (f2 m r) (s.loc16 m) (s.reg16 r) []) ∧
    (∀ r m, P (f3 r m) (.reg r) (s.get8 (s.loc8 m)) (reads8 s (s.loc8 m))) ∧
    (∀ r m, Q (f4 r m) (.reg r) (s.get16 (s.loc16 m)) (reads16 s (s.loc16 m))) ∧
    (∀ v, P (f5 v) (.reg .al) v []) ∧ (∀ v, Q (f6 v) (.reg .ax) v [])

/-- The immediate group, codes 80 and 81 (R181). -/
def ImmediateForms (s : State) (P : Instr → Loc8 → Byte → List BusCycle → Prop)
    (Q : Instr → Loc16 → Word → List BusCycle → Prop)
    (f1 : Rm8 → Byte → Instr) (f2 : Rm16 → Word → Instr) : Prop :=
  (∀ m v, P (f1 m v) (s.loc8 m) v []) ∧ (∀ m v, Q (f2 m v) (s.loc16 m) v [])

/-- The immediate group, codes 82 and 83: 83 sign-extends its byte (R104, R181). -/
def ShortForms (s : State) (P : Instr → Loc8 → Byte → List BusCycle → Prop)
    (Q : Instr → Loc16 → Word → List BusCycle → Prop)
    (f1 : Rm8 → Byte → Instr) (f2 : Rm16 → Byte → Instr) : Prop :=
  (∀ m v, P (f1 m v) (s.loc8 m) v []) ∧ (∀ m v, Q (f2 m v) (s.loc16 m) (v.signExtend 16) [])

/-! ## Multiplication and division -/

/-- The flags of a multiplication: CF and OF together, SF, ZF, AF, PF anything (R198). -/
def ProductFlags (f : Flags) (big : Prop) (g : Flags) : Prop :=
  (g.cf = true ↔ big) ∧ g.of = g.cf ∧ ControlFlags f g

/-- An instruction that runs, makes the bus cycles `cs`, and writes AX (and DX if `both`) and flags only. -/
def RunsAccumulator (both : Bool) (s : State) (i : Instr) (cs : List BusCycle) (P : State → Prop) : Prop :=
  ∃ t, exec i s = .next t ∧ P t ∧ (∀ r, r ≠ .ax → (both = true → r ≠ .dx) → t.reg16 r = s.reg16 r) ∧ MemoryKept s t ∧
    Frame cs s t

/-- `q` and `r` are the truncated quotient and the remainder of `n` by `d` (R201). -/
def Divides (n d q r : Int) : Prop := n = q * d + r ∧ |r| < |d| ∧ (r = 0 ∨ (r < 0 ↔ n < 0))

/-! ## Interrupt entry (R356, R357) -/

/-- The word `w` holds the nine flags at the bits of R32. -/
def FlagBits (w : Word) (f : Flags) : Prop :=
  w.getLsbD 0 = f.cf ∧ w.getLsbD 2 = f.pf ∧ w.getLsbD 4 = f.af ∧ w.getLsbD 6 = f.zf ∧ w.getLsbD 7 = f.sf ∧
    w.getLsbD 8 = f.tf ∧ w.getLsbD 9 = f.ifl ∧ w.getLsbD 10 = f.df ∧ w.getLsbD 11 = f.of

/-- `v` is the word that memory holds at physical address `a`, if there is plain memory. -/
def PointerWord (s : State) (a : Nat) (v : Word) : Prop :=
  (s.isMemory (BitVec.ofNat 20 a) = true → v.setWidth 8 = s.memoryByte (BitVec.ofNat 20 a)) ∧
    (s.isMemory (BitVec.ofNat 20 (a + 1)) = true → v.extractLsb' 8 8 = s.memoryByte (BitVec.ofNat 20 (a + 1)))

/-- The interrupt sequence of type `n` took the machine from `s` to `t`: flags `w`, CS and IP pushed, then the two words of the
pointer read, each one bus cycle or two on the bus in this order. -/
structure Entered (s t : State) (n : Byte) : Prop where
  sp : t.regs.sp = s.regs.sp - 6
  regs : RegsKeptBut .sp s t
  saved : ∃ w, FlagBits w s.flags ∧ StoredWord t s.ss (s.regs.sp - 2) w ∧
    t.bus = ⟨.read, .memory (BitVec.ofNat 20 (4 * n.toNat + 2)), .word t.cs, lockOn s⟩ ::
      ⟨.read, .memory (BitVec.ofNat 20 (4 * n.toNat)), .word t.ip, lockOn s⟩ ::
      (wordCycles (lockOn s) .write s.ss (s.regs.sp - 6) s.ip ++ wordCycles (lockOn s) .write s.ss (s.regs.sp - 4) s.cs ++
        wordCycles (lockOn s) .write s.ss (s.regs.sp - 2) w ++ s.bus)
  savedCs : StoredWord t s.ss (s.regs.sp - 4) s.cs
  savedIp : StoredWord t s.ss (s.regs.sp - 6) s.ip
  memory : ∀ a, (∀ k ∈ [(2 : Word), 4, 6], ¬ covers16 s (Loc16.mem s.ss (s.regs.sp - k)) a) →
    t.memoryByte a = s.memoryByte a
  masked : t.flags = { s.flags with ifl := false, tf := false }
  ip : PointerWord t (4 * n.toNat) t.ip
  cs : PointerWord t (4 * n.toNat + 2) t.cs
  segs : t.es = s.es ∧ t.ss = s.ss ∧ t.ds = s.ds
  inner : t.halted = false ∧ t.pins = s.pins ∧ t.platform = s.platform ∧ t.params = s.params ∧ t.pfx = s.pfx ∧
    t.inProgress = s.inProgress ∧
    t.start = s.start ∧ t.fetches = s.fetches

/-- The state after the two acknowledge cycles of INTR (R355); that the type byte comes in the second is log 12 (PRESUMED). -/
def acknowledgedState (s : State) : State :=
  { s with bus := ⟨.read, .acknowledge, .byte s.pins.intrType, lockOn s⟩ ::
      ⟨.read, .acknowledge, .nothing, lockOn s⟩ :: s.bus }

/-- NMI taken out of its latch (R354). -/
def nmiTaken (s : State) : State := { s with pins := { s.pins with nmiPending := false } }

/-- What a divide error may leave before the sequence: AX, DX if `both`, and the six arithmetic flags are anything (R201,
R359); the bus cycles `cs` have read the divisor. -/
structure Unpredictable (both : Bool) (cs : List BusCycle) (s u : State) : Prop where
  regs : ∀ r, r ≠ .ax → (both = true → r ≠ .dx) → u.reg16 r = s.reg16 r
  flags : ControlFlags s.flags u.flags
  memory : MemoryKept s u
  frame : Frame cs s u

/-- The instruction takes the divide error (R201); its prefixes end before the sequence (R13, R353; log 5, DEDUCED). -/
def DivideError (both : Bool) (s : State) (i : Instr) (cs : List BusCycle) : Prop :=
  ∃ u t, Unpredictable both cs s u ∧ exec i s = .next t ∧ Entered { u with pfx := Prefixes.none } t 0 ∧ t.raised = true

/-! ## Shifts -/

/-- The flags of SHL, SHR, SAR but CF and OF: SF, ZF, PF of the result, AF anything (R232). -/
def OrdinaryFlags {w : Nat} (s : State) (v : BitVec w) (g : Flags) : Prop := ResultFlags s v g ∧ ControlFlags s.flags g

/-- The flags of a rotate but CF and OF: nothing else is written (R232). -/
def RotateFlags (f g : Flags) : Prop := g.sf = f.sf ∧ g.zf = f.zf ∧ g.af = f.af ∧ g.pf = f.pf ∧ ControlFlags f g

/-- Bit k of the ring of w + 1 bits that RCL and RCR turn: the operand, then CF (R235). -/
def ringBit {w : Nat} (x : BitVec w) (c : Bool) (k : Nat) : Bool := if k < w then x.getLsbD k else c

/-- The four forms of a shift or rotate: a claim about byte operands and one about word operands. -/
def ByteAndWord (s : State) (P : Instr → Loc8 → Prop) (Q : Instr → Loc16 → Prop) (f : Rm8 → Instr) (g : Rm16 → Instr) :
    Prop :=
  (∀ m, P (f m) (s.loc8 m)) ∧ (∀ m, Q (g m) (s.loc16 m))

/-! ## The stack and transfers of control -/

/-- The instruction stored `v` at SS:SP - 2 and wrote nothing else but SP. -/
structure Pushed (s t : State) (v : Word) : Prop where
  sp : t.regs.sp = s.regs.sp - 2
  regs : RegsKeptBut .sp s t
  word : StoredWord t s.ss (s.regs.sp - 2) v
  memory : ∀ a, ¬ covers16 s (Loc16.mem s.ss (s.regs.sp - 2)) a → t.memoryByte a = s.memoryByte a
  flags : t.flags = s.flags

/-- The bus cycles of pushing `v`. -/
def pushCycles (s : State) (v : Word) : List BusCycle := wordCycles (lockOn s) .write s.ss (s.regs.sp - 2) v

/-- The state after bus cycles that changed nothing else: what a second read starts from. -/
def after (s : State) (cs : List BusCycle) : State := { s with bus := cs ++ s.bus }

/-- The word on top of the stack. -/
def topWord (s : State) : Word := s.readWord s.ss s.regs.sp

/-- The bus cycles of reading it. -/
def topCycles (s : State) : List BusCycle := wordCycles (lockOn s) .read s.ss s.regs.sp (topWord s)

/-- The word below the top of the stack, read after it. -/
def secondWord (s : State) : Word := (after s (topCycles s)).readWord s.ss (s.regs.sp + 2)

/-- The bus cycles of reading both. -/
def twoCycles (s : State) : List BusCycle :=
  wordCycles (lockOn s) .read s.ss (s.regs.sp + 2) (secondWord s) ++ topCycles s

/-- The third word of the stack, read after these two. -/
def thirdWord (s : State) : Word := (after s (twoCycles s)).readWord s.ss (s.regs.sp + 4)

/-- The bus cycles of reading all three. -/
def threeCycles (s : State) : List BusCycle :=
  wordCycles (lockOn s) .read s.ss (s.regs.sp + 4) (thirdWord s) ++ twoCycles s

/-- The first word of the double word at a memory operand. -/
def farFirst (s : State) (m : Mem) : Word := s.readWord (s.memSegment m) (s.ea m)

/-- The bus cycles of reading it. -/
def farFirstCycles (s : State) (m : Mem) : List BusCycle :=
  wordCycles (lockOn s) .read (s.memSegment m) (s.ea m) (farFirst s m)

/-- The second word, at EA + 2 (R73, R151), read after the first; past the end of the segment its place is free (R72, log 7). -/
def farSecond (s : State) (m : Mem) : Word :=
  (after s (farFirstCycles s m)).readWord (secondSegment (s.memSegment m) (s.ea m)) (s.ea m + 2)

/-- The bus cycles of reading both. -/
def farCycles (s : State) (m : Mem) : List BusCycle :=
  wordCycles (lockOn s) .read (secondSegment (s.memSegment m) (s.ea m)) (s.ea m + 2) (farSecond s m) ++ farFirstCycles s m

/-- Nothing but IP was written, and CS if `far`; the bus cycles are `bc`. -/
def OnlyIp (far : Bool) (bc : List BusCycle) (s t : State) : Prop :=
  RegsKept s t ∧ t.flags = s.flags ∧ MemoryKept s t ∧ t.es = s.es ∧ (far = false → t.cs = s.cs) ∧ t.ss = s.ss ∧
    t.ds = s.ds ∧ Inner s t ∧ t.shadow = s.shadow ∧ t.bus = bc ++ s.bus

/-- The instruction goes to offset `ip` of the same segment and changes nothing else. -/
def JumpsNear (s : State) (i : Instr) (ip : Word) (bc : List BusCycle) : Prop :=
  ∃ t, exec i s = .next t ∧ t.ip = ip ∧ OnlyIp false bc s t

/-- The instruction goes to `cs:ip` and changes nothing else. -/
def JumpsFar (s : State) (i : Instr) (cs ip : Word) (bc : List BusCycle) : Prop :=
  ∃ t, exec i s = .next t ∧ t.ip = ip ∧ t.cs = cs ∧ OnlyIp true bc s t

/-- A conditional short jump: to the displacement's target if `c`, else on; nothing else changes (R256). -/
def BranchesOn (s : State) (i : Instr) (rel : Byte) (c : Prop) : Prop :=
  ∃ t, exec i s = .next t ∧ (c → t.ip = s.ip + rel.signExtend 16) ∧ (¬ c → t.ip = s.ip) ∧ OnlyIp false [] s t

/-- A loop instruction: CX - 1, the jump if the new CX is not 0 and `c` (R274). -/
def LoopsOn (s : State) (i : Instr) (rel : Byte) (c : Prop) : Prop :=
  ∃ t, exec i s = .next t ∧ t.regs.cx = s.regs.cx - 1 ∧
    (t.regs.cx ≠ 0 ∧ c → t.ip = s.ip + rel.signExtend 16) ∧ (¬ (t.regs.cx ≠ 0 ∧ c) → t.ip = s.ip) ∧
    RegsKeptBut .cx s t ∧ t.flags = s.flags ∧ MemoryKept s t ∧ Segs s t ∧ Inner s t ∧ t.shadow = s.shadow ∧ t.bus = s.bus

/-- A near call: the return offset pushed, then the jump (R278, R279); `src` are the bus cycles before the push. -/
def CallsNear (s : State) (i : Instr) (ip : Word) (src : List BusCycle) : Prop :=
  ∃ t, exec i s = .next t ∧ Pushed s t s.ip ∧ t.ip = ip ∧ Segs s t ∧ Inner s t ∧ t.shadow = s.shadow ∧
    t.bus = pushCycles s s.ip ++ src ++ s.bus

/-- A far call: CS, then the return offset pushed, then the jump (R280, R281). -/
def CallsFar (s : State) (i : Instr) (cs ip : Word) (src : List BusCycle) : Prop :=
  ∃ t, exec i s = .next t ∧ t.ip = ip ∧ t.cs = cs ∧ t.regs.sp = s.regs.sp - 4 ∧ RegsKeptBut .sp s t ∧
    StoredWord t s.ss (s.regs.sp - 2) s.cs ∧ StoredWord t s.ss (s.regs.sp - 4) s.ip ∧
    (∀ a, ¬ covers16 s (Loc16.mem s.ss (s.regs.sp - 2)) a → ¬ covers16 s (Loc16.mem s.ss (s.regs.sp - 4)) a →
      t.memoryByte a = s.memoryByte a) ∧
    t.flags = s.flags ∧ t.es = s.es ∧ t.ss = s.ss ∧ t.ds = s.ds ∧ Inner s t ∧ t.shadow = s.shadow ∧
    t.bus = wordCycles (lockOn s) .write s.ss (s.regs.sp - 4) s.ip ++ pushCycles s s.cs ++ src ++ s.bus

/-- A return that leaves SP at `sp`, goes to `cs:ip` and makes the bus cycles `bc` (R282 to R285). -/
def Returns (s : State) (i : Instr) (cs ip sp : Word) (bc : List BusCycle) : Prop :=
  ∃ t, exec i s = .next t ∧ t.ip = ip ∧ t.cs = cs ∧ t.regs.sp = sp ∧ RegsKeptBut .sp s t ∧ MemoryKept s t ∧
    t.flags = s.flags ∧ t.es = s.es ∧ t.ss = s.ss ∧ t.ds = s.ds ∧ Inner s t ∧ t.shadow = s.shadow ∧ t.bus = bc ++ s.bus

/-! ## Strings -/

/-- `Step` of R301: the register moved by `n` up (DF = 0) or down (DF = 1). -/
def stepped (s : State) (x n : Word) : Word := if s.flags.df = true then x - n else x + n

/-- The segment of the source element (R300). -/
def sourceSeg (s : State) : Word := s.sreg (s.pfx.seg.getD .ds)

/-- CMPS and SCAS, whose repetition also tests ZF (R302). -/
def comparesElements (i : Instr) : Prop := i = .cmpsb ∨ i = .cmpsw ∨ i = .scasb ∨ i = .scasw

/-- Whether a repetition under prefix `p` ends for ZF (R302). -/
def endsOn : RepeatPrefix → Bool → Prop
  | .repe, zf => zf = false
  | .repne, zf => zf = true

/-- A request that is recognised at a window or boundary with no shadow (R353). -/
def Requested (t : State) (tf0 : Bool) : Prop :=
  t.pins.nmiPending = true ∨ (t.pins.intrLevel = true ∧ t.flags.ifl = true) ∨ tf0 = true

/-! ## Shapes of single instructions -/

/-- A move at a byte place: no flag is written (R141 to R147). -/
def Moves8 (s : State) (i : Instr) (l : Loc8) (x : Byte) (src : List BusCycle) : Prop :=
  Runs8 s i src l (fun v => v = x) fun _ g => g = s.flags

/-- A move at a word place. -/
def Moves16 (s : State) (i : Instr) (l : Loc16) (x : Word) (src : List BusCycle) : Prop :=
  Runs16 s i src l (fun v => v = x) fun _ g => g = s.flags

/-- Plus one at a byte place, CF kept (R184). -/
def Increments8 (s : State) (i : Instr) (l : Loc8) : Prop :=
  Runs8 s i (reads8 s l) l (fun v => v.toNat = ((s.get8 l).toNat + 1) % 2 ^ 8) fun v g =>
    SumFlags s (s.get8 l) 1 0 v g ∧ g.cf = s.flags.cf

/-- Plus one at a word place, CF kept. -/
def Increments16 (s : State) (i : Instr) (l : Loc16) : Prop :=
  Runs16 s i (reads16 s l) l (fun v => v.toNat = ((s.get16 l).toNat + 1) % 2 ^ 16) fun v g =>
    SumFlags s (s.get16 l) 1 0 v g ∧ g.cf = s.flags.cf

/-- Minus one at a byte place, CF kept (R187). -/
def Decrements8 (s : State) (i : Instr) (l : Loc8) : Prop :=
  Runs8 s i (reads8 s l) l (fun v => v.toNat = ((s.get8 l).toNat + 2 ^ 8 - 1) % 2 ^ 8) fun v g =>
    DifferenceFlags s (s.get8 l) 1 0 v g ∧ g.cf = s.flags.cf

/-- Minus one at a word place, CF kept. -/
def Decrements16 (s : State) (i : Instr) (l : Loc16) : Prop :=
  Runs16 s i (reads16 s l) l (fun v => v.toNat = ((s.get16 l).toNat + 2 ^ 16 - 1) % 2 ^ 16) fun v g =>
    DifferenceFlags s (s.get16 l) 1 0 v g ∧ g.cf = s.flags.cf

/-- Segment register `q` loaded with `x` by MOV, nothing else written but the note `shadow` (R145, log 8). -/
def LoadsSegment (s : State) (i : Instr) (q : SReg) (x : Word) (src : List BusCycle) : Prop :=
  ∃ t, exec i s = .next t ∧ (∀ p, t.sreg p = if p = q then x else s.sreg p) ∧ RegsKept s t ∧ t.flags = s.flags ∧
    MemoryKept s t ∧ Inner s t ∧ t.ip = s.ip ∧ t.bus = src ++ s.bus ∧ t.shadow = true

/-- XCHG AX with `r` (R150). -/
def SwapsAx (s : State) (i : Instr) (r : Reg16) : Prop :=
  ∃ t, exec i s = .next t ∧ t.regs.ax = s.reg16 r ∧ t.reg16 r = s.regs.ax ∧
    (∀ q, q ≠ .ax → q ≠ r → t.reg16 q = s.reg16 q) ∧ t.flags = s.flags ∧ MemoryKept s t ∧ Frame [] s t

/-- LDS and LES: both words read through the old segment (R151, R152). -/
def LoadsFar (s : State) (i : Instr) (r : Reg16) (q : SReg) (m : Mem) : Prop :=
  ∃ t, exec i s = .next t ∧ t.reg16 r = farFirst s m ∧ (∀ p, t.sreg p = if p = q then farSecond s m else s.sreg p) ∧
    RegsKeptBut r s t ∧ t.flags = s.flags ∧ MemoryKept s t ∧ Inner s t ∧ t.ip = s.ip ∧ t.shadow = s.shadow ∧
    t.bus = farCycles s m ++ s.bus

/-- The instruction makes the bus cycles `src`, pushes `v` and does nothing else. -/
def Pushes (s : State) (i : Instr) (v : Word) (src : List BusCycle) : Prop :=
  ∃ t, exec i s = .next t ∧ Pushed s t v ∧ Frame (pushCycles s v ++ src) s t

/-- POP into a register or memory: SP + 2 unless SP is the destination (R161, R163, R167). -/
def Pops (s : State) (i : Instr) (l : Loc16) : Prop :=
  ∃ t, exec i s = .next t ∧ Holds16 t l (topWord s) ∧ (l ≠ .reg .sp → t.regs.sp = s.regs.sp + 2) ∧
    (∀ q, l ≠ .reg q → q ≠ .sp → t.reg16 q = s.reg16 q) ∧ (∀ a, ¬ covers16 s l a → t.memoryByte a = s.memoryByte a) ∧
    t.flags = s.flags ∧ Frame (cycles16 (lockOn s) .write l (topWord s) ++ topCycles s) s t

/-- POP into a segment register (R165); the note `shadow` is the model's (log 8). -/
def PopsSegment (s : State) (i : Instr) (q : SReg) : Prop :=
  ∃ t, exec i s = .next t ∧ (∀ p, t.sreg p = if p = q then topWord s else s.sreg p) ∧ t.regs.sp = s.regs.sp + 2 ∧
    RegsKeptBut .sp s t ∧ t.flags = s.flags ∧ MemoryKept s t ∧ Inner s t ∧ t.ip = s.ip ∧ t.bus = topCycles s ++ s.bus ∧
    t.shadow = true

/-- The frame of IN and OUT, bus cycles apart. -/
def PortFrame (s t : State) : Prop :=
  t.flags = s.flags ∧ MemoryKept s t ∧ Segs s t ∧ Inner s t ∧ t.ip = s.ip ∧ t.shadow = s.shadow

/-- One bus cycle of a byte at a port. -/
def portByte (s : State) (d : Direction) (p : Word) (v : Byte) : BusCycle := ⟨d, .port p, .byte v, lockOn s⟩

/-- One bus cycle of a word at a port. -/
def portWord (s : State) (d : Direction) (p v : Word) : BusCycle := ⟨d, .port p, .word v, lockOn s⟩

/-- IN AL from port `p`: some byte, read in one bus cycle (R168). -/
def Inputs8 (s : State) (i : Instr) (p : Word) : Prop :=
  ∃ t, exec i s = .next t ∧ t.bus = portByte s .read p (t.reg8 .al) :: s.bus ∧ t.reg8 .ah = s.reg8 .ah ∧
    RegsKeptBut .ax s t ∧ PortFrame s t

/-- IN AX from port `p`: one cycle at an even port, two, low byte first, at an odd one (R168, R81). -/
def Inputs16 (s : State) (i : Instr) (p : Word) : Prop :=
  (p = 0xFFFF → exec i s = .refused .wordPortFFFF) ∧
  (p ≠ 0xFFFF → ∃ t, exec i s = .next t ∧ (p.toNat % 2 = 0 → t.bus = portWord s .read p t.regs.ax :: s.bus) ∧
    (p.toNat % 2 = 1 → t.bus = portByte s .read (p + 1) (t.reg8 .ah) :: portByte s .read p (t.reg8 .al) :: s.bus) ∧
    RegsKeptBut .ax s t ∧ PortFrame s t)

/-- OUT of AL to port `p`, nothing else (R169). -/
def Outputs8 (s : State) (i : Instr) (p : Word) : Prop :=
  exec i s = .next { s with bus := portByte s .write p (s.reg8 .al) :: s.bus }

/-- OUT of AX to port `p` (R169, R81). -/
def Outputs16 (s : State) (i : Instr) (p : Word) : Prop :=
  (p = 0xFFFF → exec i s = .refused .wordPortFFFF) ∧
  (p ≠ 0xFFFF → p.toNat % 2 = 0 → exec i s = .next { s with bus := portWord s .write p s.regs.ax :: s.bus }) ∧
  (p ≠ 0xFFFF → p.toNat % 2 = 1 → exec i s = .next { s with
      bus := portByte s .write (p + 1) (s.reg8 .ah) :: portByte s .write p (s.reg8 .al) :: s.bus })

/-- The instruction takes the interrupt sequence of type `n` and nothing else (R286, R287); its prefixes end before the sequence
(R13, R353; log 5, DEDUCED). -/
def Enters (s : State) (i : Instr) (n : Byte) : Prop :=
  ∃ t, exec i s = .next t ∧ Entered { s with pfx := Prefixes.none } t n ∧ t.raised = true

/-- The place of the source element (R300). -/
def source8 (s : State) : Loc8 := .mem (sourceSeg s) s.regs.si

/-- The place of the source element, a word (R300). -/
def source16 (s : State) : Loc16 := .mem (sourceSeg s) s.regs.si

/-- The place of the destination element (R300). -/
def dest8 (s : State) : Loc8 := .mem s.es s.regs.di

/-- The place of the destination element, a word (R300). -/
def dest16 (s : State) : Loc16 := .mem s.es s.regs.di

/-- MOVS and STOS without a repeat prefix on bytes: `x`, read by `src`, stored at ES:DI, SI stepped if it is used. -/
def StoresElement8 (s : State) (i : Instr) (x : Byte) (si : Bool) (src : List BusCycle) : Prop :=
  ∃ t, exec i s = .next t ∧ Holds8 t (dest8 s) x ∧ (∀ a, ¬ covers8 s (dest8 s) a → t.memoryByte a = s.memoryByte a) ∧
    t.regs.si = (if si then stepped s s.regs.si 1 else s.regs.si) ∧ t.regs.di = stepped s s.regs.di 1 ∧
    (∀ r, r ≠ .si → r ≠ .di → t.reg16 r = s.reg16 r) ∧ t.flags = s.flags ∧
    Frame (cycles8 (lockOn s) .write (dest8 s) x ++ src) s t

/-- The same on words. -/
def StoresElement16 (s : State) (i : Instr) (x : Word) (si : Bool) (src : List BusCycle) : Prop :=
  ∃ t, exec i s = .next t ∧ Holds16 t (dest16 s) x ∧ (∀ a, ¬ covers16 s (dest16 s) a → t.memoryByte a = s.memoryByte a) ∧
    t.regs.si = (if si then stepped s s.regs.si 2 else s.regs.si) ∧ t.regs.di = stepped s s.regs.di 2 ∧
    (∀ r, r ≠ .si → r ≠ .di → t.reg16 r = s.reg16 r) ∧ t.flags = s.flags ∧
    Frame (cycles16 (lockOn s) .write (dest16 s) x ++ src) s t

/-- CMPS and SCAS without a repeat prefix on bytes, read by `cs`: the flags of a - b, SI stepped if it is used. -/
def ComparesElement8 (s : State) (i : Instr) (a b : Byte) (si : Bool) (cs : List BusCycle) : Prop :=
  ∃ t, exec i s = .next t ∧
    (∃ v : Byte, v.toNat = (2 ^ 8 + a.toNat - b.toNat) % 2 ^ 8 ∧ DifferenceFlags s a b 0 v t.flags) ∧
    (t.flags.cf = true ↔ a.toNat < b.toNat) ∧ t.regs.si = (if si then stepped s s.regs.si 1 else s.regs.si) ∧
    t.regs.di = stepped s s.regs.di 1 ∧ (∀ r, r ≠ .si → r ≠ .di → t.reg16 r = s.reg16 r) ∧ MemoryKept s t ∧ Frame cs s t

/-- The same on words. -/
def ComparesElement16 (s : State) (i : Instr) (a b : Word) (si : Bool) (cs : List BusCycle) : Prop :=
  ∃ t, exec i s = .next t ∧
    (∃ v : Word, v.toNat = (2 ^ 16 + a.toNat - b.toNat) % 2 ^ 16 ∧ DifferenceFlags s a b 0 v t.flags) ∧
    (t.flags.cf = true ↔ a.toNat < b.toNat) ∧ t.regs.si = (if si then stepped s s.regs.si 2 else s.regs.si) ∧
    t.regs.di = stepped s s.regs.di 2 ∧ (∀ r, r ≠ .si → r ≠ .di → t.reg16 r = s.reg16 r) ∧ MemoryKept s t ∧ Frame cs s t

/-- A segment prefix: recorded, or refused when one is in force (R116, R119). -/
def Overrides (s : State) (i : Instr) (q : SReg) : Prop :=
  (s.pfx.seg = none → exec i s = .next { s with pfx := { s.pfx with seg := some q } }) ∧
  (s.pfx.seg ≠ none → exec i s = .refused .duplicatePrefix)

/-- A repeat prefix: recorded, or refused when one is in force (R118, R119). -/
def Repeats (s : State) (i : Instr) (p : RepeatPrefix) : Prop :=
  (s.pfx.rep = none → exec i s = .next { s with pfx := { s.pfx with rep := some p } }) ∧
  (s.pfx.rep ≠ none → exec i s = .refused .duplicatePrefix)

/-- A decimal correction that leaves `x` in AL and `y` in AH and flags with property `P`, control flags kept. -/
def Corrects (s : State) (i : Instr) (x y : Nat) (P : Byte → Flags → Prop) : Prop :=
  RunsAccumulator false s i [] fun t => (t.reg8 .al).toNat = x ∧ (t.reg8 .ah).toNat = y ∧ P (t.reg8 .al) t.flags ∧
    ControlFlags s.flags t.flags

/-- Whether the low nibble is corrected (R341). -/
def lowCorrection (s : State) : Bool := decide (9 < (s.reg8 .al).toNat % 16) || s.flags.af

/-- Whether the high nibble is corrected (R341). -/
def highCorrection (s : State) : Bool := decide (0x99 < (s.reg8 .al).toNat) || s.flags.cf

/-! ## Encodings -/

/-- The opcode extension of a postbyte: bits 5 to 3 (R107). -/
abbrev ext (p : Byte) : Nat := p.toNat / 8 % 8

/-- A postbyte with mod = 11: a register operand (R108). -/
abbrev RegisterForm (p : Byte) : Prop := p.toNat / 64 = 3

/-- First byte and postbyte of an encoding with no instruction: the set of R126, with the second bytes of R345 and R346. -/
abbrev Undefined (b p : Byte) : Prop :=
  b.toNat ∈ [0x0F, 0xC0, 0xC1, 0xC8, 0xC9, 0xD6, 0xF1] ∨ (0x60 ≤ b.toNat ∧ b.toNat ≤ 0x6F) ∨
    (b.toNat ∈ [0x82, 0x83] ∧ ext p ∈ [1, 4, 6]) ∨ (b.toNat ∈ [0x8F, 0xC6, 0xC7] ∧ ext p ≠ 0) ∨
    (b.toNat ∈ [0xD0, 0xD1, 0xD2, 0xD3] ∧ ext p = 6) ∨ (b.toNat ∈ [0xF6, 0xF7] ∧ ext p = 1) ∨ (b.toNat = 0xFE ∧ 2 ≤ ext p) ∨
    (b.toNat = 0xFF ∧ ext p = 7) ∨ (b.toNat ∈ [0x8C, 0x8E] ∧ 4 ≤ ext p) ∨ (b.toNat = 0x8E ∧ ext p = 1) ∨
    (b.toNat ∈ [0x8D, 0xC4, 0xC5] ∧ RegisterForm p) ∨ (b.toNat = 0xFF ∧ ext p ∈ [3, 5] ∧ RegisterForm p) ∨
    (b.toNat ∈ [0xD4, 0xD5] ∧ p ≠ 0x0A)

/-- The next code bytes in memory at CS:IP: six of them, or those before the first address that is not plain memory. -/
def codeBytes (s : State) : List Byte :=
  ((List.range 6).takeWhile fun k => s.isMemory (physAddr s.cs (s.ip + BitVec.ofNat 16 k))).map fun k =>
    s.memoryByte (physAddr s.cs (s.ip + BitVec.ofNat 16 k))

/-- The addresses an instruction fetch cycle reads. -/
def fetched (c : BusCycle) : List PhysAddr :=
  match c.target, c.data with
  | .fetch a, .byte _ => [a]
  | .fetch a, .word _ => [a, a + 1]
  | _, _ => []

/-- A fetch cycle (R75, R382): it reads, in one cycle, a byte of plain memory or a word of it at an even address, all of it code
bytes that were not in the queue. -/
structure Fetches (s : State) (c : BusCycle) : Prop where
  read : c.direction = .read
  lock : c.lock = lockOn s
  code : fetched c ≠ [] ∧ ∀ a ∈ fetched c, s.isMemory a = true ∧ ∃ k, s.ahead ≤ k ∧ a = s.codeAddr k
  byte : ∀ a v, c.target = .fetch a → c.data = .byte v → v = s.memoryByte a
  word : ∀ a v, c.target = .fetch a → c.data = .word v →
    a.toNat % 2 = 0 ∧ v.setWidth 8 = s.memoryByte a ∧ v.extractLsb' 8 8 = s.memoryByte (a + 1)

/-! ## The platform and reset -/

/-- Something answers at every address (R78). -/
def NoHoles (s : State) : Prop := ∀ a, s.kindAt a ≠ .absent

/-- The table of R55, the general registers apart, with the platform, the parameters, TEST and INTR as they were. -/
def ResetFrom (s t : State) : Prop :=
  t.flags = State.reset.flags ∧ t.ip = 0 ∧ t.cs = 0xFFFF ∧ t.ds = 0 ∧ t.es = 0 ∧ t.ss = 0 ∧ t.halted = false ∧
    t.pfx = Prefixes.none ∧ t.inProgress = none ∧ t.queue = [] ∧ t.ahead = 0 ∧ t.pins = { s.pins with nmiPending := false } ∧
    t.platform = s.platform ∧ t.params = s.params

/-- What one bus cycle stores in memory `m`: the bytes that go to plain memory. -/
def Stores (s : State) (m : Memory) (c : BusCycle) : Memory :=
  match c with
  | ⟨.write, .memory a, .byte v, _⟩ => if s.isMemory a then m.write a.toNat v else m
  | ⟨.write, .memory a, .word v, _⟩ =>
    let low := if s.isMemory a then m.write a.toNat (v.setWidth 8) else m
    if s.isMemory (a + 1) then low.write (a + 1).toNat (v.extractLsb' 8 8) else low
  | _ => m

end Sys2Proof.Spec

section
open Sys2Proof Sys2Proof.Machine Sys2Proof.Spec

/-- Decode and encode agree: no bit of an encoding is dropped (R105 to R120). -/
def Obligations.DecodeEncode : Prop :=
  ∀ (i : Instr) (rest : List Byte), i.wellFormed = true → decode (encode i ++ rest) = .ok (i, rest)

/-- Each word has one meaning: what was decoded encodes to the bytes read, 1 to 6 of them (R111). -/
def Obligations.EncodeDecode : Prop :=
  ∀ (bs : List Byte) (i : Instr) (rest : List Byte), decode bs = .ok (i, rest) →
    bs = encode i ++ rest ∧ i.wellFormed = true ∧ 1 ≤ (encode i).length ∧ (encode i).length ≤ 6

/-- Some words of the spec, one per family (the Example lines of R182, R185, R203, R239, R254, R305, R152, R345). -/
def Obligations.SampleWords : Prop :=
  decode [0x01, 0xC8] = .ok (.addRm16R16 (.reg .ax) .cx, []) ∧
    decode [0x2B, 0x56, 0x02] = .ok (.subR16Rm16 .dx (.mem (.disp8 .bp 2)), []) ∧
    decode [0xF7, 0xFB] = .ok (.idivRm16 (.reg .bx), []) ∧
    decode [0xD3, 0xFB] = .ok (.sarRm16Cl (.reg .bx), []) ∧
    decode [0xEA, 0x00, 0x01, 0x00, 0x20] = .ok (.jmpFar 0x0100 0x2000, []) ∧
    decode [0xF3, 0xA5] = .ok (.rep, [0xA5]) ∧ decode [0xA5] = .ok (.movsw, []) ∧
    decode [0xC4, 0x7D, 0x04] = .ok (.les .di (.disp8 .di 4), []) ∧ decode [0xD4, 0x0A] = .ok (.aam, [])

/-- The rejected encodings are the set of R126, R124, R345, R346, no more and no fewer. -/
def Obligations.UndefinedEncodings : Prop :=
  ∀ (b p : Byte) (rest : List Byte), 4 ≤ rest.length →
    ((∃ e, decode (b :: p :: rest) = .error e) ↔ Undefined b p)

/-- A step runs the decoded instruction: IP is moved past it first (R27), then the boundary of R353, or nothing
after a prefix, or the window of R304 and R328. A prefix as a step and one element a step are the model's form (log
15, 16); `complete` is R78, see StepRefusals. -/
def Obligations.StepRunsDecoded : Prop :=
  ∀ (s : State) (i : Instr) (rest : List Byte), s.ready → s.queue = [] → decode (codeBytes s) = .ok (i, rest) →
    s.misplacedRepeat i = false →
    ∃ (m : Nat) (fs : List BusCycle) (s1 : State), s1 = { s with
        ip := s.ip + BitVec.ofNat 16 ((codeBytes s).length - rest.length)
        start := if s.pfx = Prefixes.none then s.ip else s.start
        ahead := m, fetches := fs ++ s.fetches, draws := s.draws + 1 } ∧
      (∀ t, exec i s1 = .next t → isPrefix i = true → step s = s.complete (.next t.trim)) ∧
      (∀ t, exec i s1 = .next t → isPrefix i = false → t.inProgress = none →
        step s = s.complete (.next (({ t with pfx := Prefixes.none }).boundary s.flags.tf).trim)) ∧
      (∀ t, exec i s1 = .next t → isPrefix i = false → t.inProgress ≠ none → step s = s.complete (t.window s.flags.tf)) ∧
      (∀ r, exec i s1 = .refused r → step s = .refused r) ∧ (NoHoles s → ∀ r, s.complete r = r)

/-- Where a step is refused: before anything runs (R126, R119, and R76 for code in no plain memory, log 3), or for a
bus cycle that nothing answers (R78). -/
def Obligations.StepRefusals : Prop :=
  ∀ s : State, s.ready → s.queue = [] →
    (∀ e, e ≠ .truncated → decode (codeBytes s) = .error e → step s = .refused (.undefinedEncoding e)) ∧
    (decode (codeBytes s) = .error .truncated → step s = .refused .fetchOutsideMemory) ∧
    (∀ i rest, decode (codeBytes s) = .ok (i, rest) → s.pfx.rep ≠ none → isString i = false → isPrefix i = false →
      step s = .refused .repeatBeforeNonString) ∧
    (∀ u cs, run s = .next u → u.bus = cs ++ s.bus →
      ((∃ c ∈ cs, ∃ a ∈ c.addresses, s.kindAt a = .absent) → step s = .refused .noDevice) ∧
      ((∀ c ∈ cs, ∀ a ∈ c.addresses, s.kindAt a ≠ .absent) → step s = .next u))

/-- R182, R183 with R44 and R40: every form, the numbers, the flags and the frame. The opcodes are statement
DecodeEncode. The bus cycles of the frame (R74, R86, R417) are recorded in the form of log 10. -/
def Obligations.AddAndAdc : Prop :=
  ∀ s : State, s.mem.wf = true →
    (SixForms s (Adds8 s false) (Adds16 s false) .addRm8R8 .addRm16R16 .addR8Rm8 .addR16Rm16 .addAlImm8
      .addAxImm16 ∧
      ImmediateForms s (Adds8 s false) (Adds16 s false) .addRm8Imm8 .addRm16Imm16 ∧
      ShortForms s (Adds8 s false) (Adds16 s false) .addRm8Imm8Alt .addRm16SImm8) ∧
    (SixForms s (Adds8 s s.flags.cf) (Adds16 s s.flags.cf) .adcRm8R8 .adcRm16R16 .adcR8Rm8 .adcR16Rm16 .adcAlImm8
      .adcAxImm16 ∧
      ImmediateForms s (Adds8 s s.flags.cf) (Adds16 s s.flags.cf) .adcRm8Imm8 .adcRm16Imm16 ∧
      ShortForms s (Adds8 s s.flags.cf) (Adds16 s s.flags.cf) .adcRm8Imm8Alt .adcRm16SImm8)

/-- R185, R186 with R45 and R40. The bus cycles of the frame (R74, R86, R417) are recorded in the form of log 10. -/
def Obligations.SubAndSbb : Prop :=
  ∀ s : State, s.mem.wf = true →
    (SixForms s (Subtracts8 s false) (Subtracts16 s false) .subRm8R8 .subRm16R16 .subR8Rm8 .subR16Rm16 .subAlImm8
      .subAxImm16 ∧
      ImmediateForms s (Subtracts8 s false) (Subtracts16 s false) .subRm8Imm8 .subRm16Imm16 ∧
      ShortForms s (Subtracts8 s false) (Subtracts16 s false) .subRm8Imm8Alt .subRm16SImm8) ∧
    (SixForms s (Subtracts8 s s.flags.cf) (Subtracts16 s s.flags.cf) .sbbRm8R8 .sbbRm16R16 .sbbR8Rm8 .sbbR16Rm16 .sbbAlImm8
      .sbbAxImm16 ∧
      ImmediateForms s (Subtracts8 s s.flags.cf) (Subtracts16 s s.flags.cf) .sbbRm8Imm8 .sbbRm16Imm16 ∧
      ShortForms s (Subtracts8 s s.flags.cf) (Subtracts16 s s.flags.cf) .sbbRm8Imm8Alt .sbbRm16SImm8)

/-- R189: CMP writes flags alone. The bus cycles of the frame (R74, R86, R417) are recorded in the form of log 10.
-/
def Obligations.Compare : Prop :=
  ∀ s : State,
    SixForms s (Compares8 s) (Compares16 s) .cmpRm8R8 .cmpRm16R16 .cmpR8Rm8 .cmpR16Rm16 .cmpAlImm8
      .cmpAxImm16 ∧
      ImmediateForms s (Compares8 s) (Compares16 s) .cmpRm8Imm8 .cmpRm16Imm16 ∧
      ShortForms s (Compares8 s) (Compares16 s) .cmpRm8Imm8Alt .cmpRm16SImm8

/-- R184 and R187: CF stays. The bus cycles of the frame (R74, R86, R417) are recorded in the form of log 10. -/
def Obligations.IncAndDec : Prop :=
  ∀ s : State, s.mem.wf = true →
    (∀ r, Increments16 s (.incR16 r) (.reg r)) ∧ (∀ m, Increments8 s (.incRm8 m) (s.loc8 m)) ∧
      (∀ m, Increments16 s (.incRm16 m) (s.loc16 m)) ∧ (∀ r, Decrements16 s (.decR16 r) (.reg r)) ∧
      (∀ m, Decrements8 s (.decRm8 m) (s.loc8 m)) ∧ (∀ m, Decrements16 s (.decRm16 m) (s.loc16 m))

/-- R188 with its corner cases; the AF clause is the one R188 marks as derived from R45. The bus cycles of the frame
(R74, R86, R417) are recorded in the form of log 10. -/
def Obligations.Negate : Prop :=
  ∀ s : State, s.mem.wf = true →
    (∀ m, Runs8 s (.negRm8 m) (reads8 s (s.loc8 m)) (s.loc8 m) (fun v => v.toNat = (2 ^ 8 - (s.rm8 m).toNat) % 2 ^ 8) fun v g =>
      (g.cf = true ↔ (s.rm8 m).toNat ≠ 0) ∧ (g.of = true ↔ (s.rm8 m).toNat = 2 ^ 7) ∧
        (g.af = true ↔ (s.rm8 m).toNat % 16 ≠ 0) ∧ ResultFlags s v g ∧ ControlFlags s.flags g) ∧
    (∀ m, Runs16 s (.negRm16 m) (reads16 s (s.loc16 m)) (s.loc16 m) (fun v => v.toNat = (2 ^ 16 - (s.rm16 m).toNat) % 2 ^ 16) fun v g =>
      (g.cf = true ↔ (s.rm16 m).toNat ≠ 0) ∧ (g.of = true ↔ (s.rm16 m).toNat = 2 ^ 15) ∧
        (g.af = true ↔ (s.rm16 m).toNat % 16 ≠ 0) ∧ ResultFlags s v g ∧ ControlFlags s.flags g)

/-- R196, R197, R198; SF, ZF, AF, PF are anything. The bus cycles of the frame (R74, R86, R417) are recorded in the
form of log 10. -/
def Obligations.Multiply : Prop :=
  ∀ (s : State) (m : Rm8) (n : Rm16),
    RunsAccumulator false s (.mulRm8 m) (reads8 s (s.loc8 m)) (fun t => t.regs.ax.toNat = (s.reg8 .al).toNat * (s.rm8 m).toNat ∧
      ProductFlags s.flags (2 ^ 8 ≤ (s.reg8 .al).toNat * (s.rm8 m).toNat) t.flags) ∧
    RunsAccumulator true s (.mulRm16 n) (reads16 s (s.loc16 n)) (fun t =>
      t.regs.dx.toNat * 2 ^ 16 + t.regs.ax.toNat = s.regs.ax.toNat * (s.rm16 n).toNat ∧
      ProductFlags s.flags (2 ^ 16 ≤ s.regs.ax.toNat * (s.rm16 n).toNat) t.flags) ∧
    RunsAccumulator false s (.imulRm8 m) (reads8 s (s.loc8 m)) (fun t => t.regs.ax.toInt = (s.reg8 .al).toInt * (s.rm8 m).toInt ∧
      ProductFlags s.flags (OutOfRange 8 ((s.reg8 .al).toInt * (s.rm8 m).toInt)) t.flags) ∧
    RunsAccumulator true s (.imulRm16 n) (reads16 s (s.loc16 n)) (fun t =>
      (t.regs.dx ++ t.regs.ax : BitVec 32).toInt = s.regs.ax.toInt * (s.rm16 n).toInt ∧
      ProductFlags s.flags (OutOfRange 16 (s.regs.ax.toInt * (s.rm16 n).toInt)) t.flags)

/-- R200 where no divide error occurs. The bus cycles of the frame (R74, R86, R417) are recorded in the form of log
10. -/
def Obligations.Divide : Prop :=
  ∀ (s : State) (m : Rm8) (n : Rm16),
    ((s.rm8 m).toNat ≠ 0 → s.regs.ax.toNat / (s.rm8 m).toNat < 2 ^ 8 →
      RunsAccumulator false s (.divRm8 m) (reads8 s (s.loc8 m)) fun t => (t.reg8 .al).toNat = s.regs.ax.toNat / (s.rm8 m).toNat ∧
        (t.reg8 .ah).toNat = s.regs.ax.toNat % (s.rm8 m).toNat ∧ ControlFlags s.flags t.flags) ∧
    ((s.rm16 n).toNat ≠ 0 → (s.regs.dx.toNat * 2 ^ 16 + s.regs.ax.toNat) / (s.rm16 n).toNat < 2 ^ 16 →
      RunsAccumulator true s (.divRm16 n) (reads16 s (s.loc16 n)) fun t =>
        t.regs.ax.toNat = (s.regs.dx.toNat * 2 ^ 16 + s.regs.ax.toNat) / (s.rm16 n).toNat ∧
        t.regs.dx.toNat = (s.regs.dx.toNat * 2 ^ 16 + s.regs.ax.toNat) % (s.rm16 n).toNat ∧
        ControlFlags s.flags t.flags)

/-- R203 where no divide error is certain; at the quotient -2^(N-1) both outcomes of IDIV_MIN are allowed (log 9).
The bus cycles of the frame (R74, R86, R417) are recorded in the form of log 10. -/
def Obligations.SignedDivide : Prop :=
  ∀ (s : State) (m : Rm8) (n : Rm16),
    let quotient8 := s.regs.ax.toInt.tdiv (s.rm8 m).toInt; let dividend := (s.regs.dx ++ s.regs.ax : BitVec 32).toInt
    let quotient16 := dividend.tdiv (s.rm16 n).toInt
    let result8 := RunsAccumulator false s (.idivRm8 m) (reads8 s (s.loc8 m)) fun t =>
      Divides s.regs.ax.toInt (s.rm8 m).toInt (t.reg8 .al).toInt (t.reg8 .ah).toInt ∧ ControlFlags s.flags t.flags
    let result16 := RunsAccumulator true s (.idivRm16 n) (reads16 s (s.loc16 n)) fun t =>
      Divides dividend (s.rm16 n).toInt t.regs.ax.toInt t.regs.dx.toInt ∧ ControlFlags s.flags t.flags;
    ((s.rm8 m).toInt ≠ 0 → -(2 ^ 7) < quotient8 → quotient8 < 2 ^ 7 → result8) ∧
    ((s.rm16 n).toInt ≠ 0 → -(2 ^ 15) < quotient16 → quotient16 < 2 ^ 15 → result16) ∧
    (s.mem.wf = true → (s.rm8 m).toInt ≠ 0 → quotient8 = -(2 ^ 7) → result8 ∨ DivideError false s (.idivRm8 m) (reads8 s (s.loc8 m))) ∧
    (s.mem.wf = true → (s.rm16 n).toInt ≠ 0 → quotient16 = -(2 ^ 15) → result16 ∨ DivideError true s (.idivRm16 n) (reads16 s (s.loc16 n)))

/-- The divide error (R201, R359): AX, DX and the arithmetic flags are unpredictable, then the sequence of type 0
with IP after the instruction. The note `raised` and the end of the halt state are the model's (log 20, 18), and so
is that a LOCK prefix ends before the sequence (log 5, DEDUCED). The bus cycles of the frame (R74, R86, R417) are
recorded in the form of log 10. -/
def Obligations.DivideErrors : Prop :=
  ∀ s : State, s.mem.wf = true →
    ∀ (m : Rm8) (n : Rm16),
    ((s.rm8 m).toNat = 0 ∨ 2 ^ 8 ≤ s.regs.ax.toNat / (s.rm8 m).toNat → DivideError false s (.divRm8 m) (reads8 s (s.loc8 m))) ∧
    ((s.rm16 n).toNat = 0 ∨ 2 ^ 16 ≤ (s.regs.dx.toNat * 2 ^ 16 + s.regs.ax.toNat) / (s.rm16 n).toNat →
      DivideError true s (.divRm16 n) (reads16 s (s.loc16 n))) ∧
    ((s.rm8 m).toInt = 0 ∨ s.regs.ax.toInt.tdiv (s.rm8 m).toInt < -(2 ^ 7) ∨
        2 ^ 7 ≤ s.regs.ax.toInt.tdiv (s.rm8 m).toInt → DivideError false s (.idivRm8 m) (reads8 s (s.loc8 m))) ∧
    ((s.rm16 n).toInt = 0 ∨ (s.regs.dx ++ s.regs.ax : BitVec 32).toInt.tdiv (s.rm16 n).toInt < -(2 ^ 15) ∨
        2 ^ 15 ≤ (s.regs.dx ++ s.regs.ax : BitVec 32).toInt.tdiv (s.rm16 n).toInt → DivideError true s (.idivRm16 n) (reads16 s (s.loc16 n)))

/-- R204 and R205. -/
def Obligations.Conversions : Prop :=
  ∀ s : State,
    (∃ t, exec .cbw s = .next t ∧ t.regs.ax.toInt = (s.reg8 .al).toInt ∧ RegsKeptBut .ax s t ∧ t.flags = s.flags ∧
      MemoryKept s t ∧ Frame [] s t) ∧
    (∃ t, exec .cwd s = .next t ∧ (t.regs.dx ++ t.regs.ax : BitVec 32).toInt = s.regs.ax.toInt ∧
      RegsKeptBut .dx s t ∧ t.flags = s.flags ∧ MemoryKept s t ∧ Frame [] s t)

/-- R221, R222, R223 with R46; AF is anything. The bus cycles of the frame (R74, R86, R417) are recorded in the form
of log 10. -/
def Obligations.LogicOperations : Prop :=
  ∀ s : State, s.mem.wf = true →
    (SixForms s (Combines8 and s) (Combines16 and s) .andRm8R8 .andRm16R16 .andR8Rm8 .andR16Rm16 .andAlImm8
      .andAxImm16 ∧
      ImmediateForms s (Combines8 and s) (Combines16 and s) .andRm8Imm8 .andRm16Imm16) ∧
    (SixForms s (Combines8 or s) (Combines16 or s) .orRm8R8 .orRm16R16 .orR8Rm8 .orR16Rm16 .orAlImm8
      .orAxImm16 ∧
      ImmediateForms s (Combines8 or s) (Combines16 or s) .orRm8Imm8 .orRm16Imm16) ∧
    (SixForms s (Combines8 xor s) (Combines16 xor s) .xorRm8R8 .xorRm16R16 .xorR8Rm8 .xorR16Rm16 .xorAlImm8
      .xorAxImm16 ∧
      ImmediateForms s (Combines8 xor s) (Combines16 xor s) .xorRm8Imm8 .xorRm16Imm16)

/-- R224 and R225. The bus cycles of the frame (R74, R86, R417) are recorded in the form of log 10. -/
def Obligations.TestAndNot : Prop :=
  ∀ s : State, s.mem.wf = true →
    ((∀ m r, Tests8 s (.testRm8R8 m r) (s.loc8 m) (s.reg8 r)) ∧
      (∀ m r, Tests16 s (.testRm16R16 m r) (s.loc16 m) (s.reg16 r)) ∧
      (∀ v, Tests8 s (.testAlImm8 v) (.reg .al) v) ∧ (∀ v, Tests16 s (.testAxImm16 v) (.reg .ax) v) ∧
      (∀ m v, Tests8 s (.testRm8Imm8 m v) (s.loc8 m) v) ∧ (∀ m v, Tests16 s (.testRm16Imm16 m v) (s.loc16 m) v)) ∧
    (∀ m, Runs8 s (.notRm8 m) (reads8 s (s.loc8 m)) (s.loc8 m) (fun v => v.toNat = 2 ^ 8 - 1 - (s.rm8 m).toNat) fun _ g => g = s.flags) ∧
    (∀ m, Runs16 s (.notRm16 m) (reads16 s (s.loc16 m)) (s.loc16 m) (fun v => v.toNat = 2 ^ 16 - 1 - (s.rm16 m).toNat) fun _ g =>
      g = s.flags)

/-- R237, R238, R239 with R232, static forms; AF is anything. The bus cycles of the frame (R74, R86, R417) are
recorded in the form of log 10. -/
def Obligations.ShiftsByOne : Prop :=
  ∀ s : State, s.mem.wf = true →
    ByteAndWord s
      (fun i l => Runs8 s i (reads8 s l) l (fun v => v.toNat = 2 * (s.get8 l).toNat % 2 ^ 8)
        fun v g => g.cf = (s.get8 l).msb ∧ (g.of = true ↔ (s.get8 l).msb ≠ v.msb) ∧
        OrdinaryFlags s v g)
      (fun i l => Runs16 s i (reads16 s l) l (fun v => v.toNat = 2 * (s.get16 l).toNat % 2 ^ 16)
        fun v g => g.cf = (s.get16 l).msb ∧ (g.of = true ↔ (s.get16 l).msb ≠ v.msb) ∧
        OrdinaryFlags s v g)
      .shlRm8One .shlRm16One ∧
    ByteAndWord s
      (fun i l => Runs8 s i (reads8 s l) l (fun v => v.toNat = (s.get8 l).toNat / 2)
        fun v g => g.cf = (s.get8 l).getLsbD 0 ∧ g.of = (s.get8 l).msb ∧ OrdinaryFlags s v g)
      (fun i l => Runs16 s i (reads16 s l) l (fun v => v.toNat = (s.get16 l).toNat / 2)
        fun v g => g.cf = (s.get16 l).getLsbD 0 ∧ g.of = (s.get16 l).msb ∧ OrdinaryFlags s v g)
      .shrRm8One .shrRm16One ∧
    ByteAndWord s
      (fun i l => Runs8 s i (reads8 s l) l (fun v => v.toInt = (s.get8 l).toInt / 2)
        fun v g => g.cf = (s.get8 l).getLsbD 0 ∧ g.of = false ∧ OrdinaryFlags s v g)
      (fun i l => Runs16 s i (reads16 s l) l (fun v => v.toInt = (s.get16 l).toInt / 2)
        fun v g => g.cf = (s.get16 l).getLsbD 0 ∧ g.of = false ∧ OrdinaryFlags s v g)
      .sarRm8One .sarRm16One

/-- R237 to R239 with R231, R232 and check K7: dynamic forms; OF and AF are anything for a count that is not 0. The
write back for the count 0 is R231, against 93_implementation_defined.md A19 (log 25, DESIGN CHOICE). The bus cycles
of the frame (R74, R86, R417) are recorded in the form of log 10. -/
def Obligations.ShiftsByCl : Prop :=
  ∀ s : State, s.mem.wf = true →
    (s.reg8 .cl ≠ 0 → ByteAndWord s
      (fun i l => Runs8 s i (reads8 s l) l (fun v => v.toNat = (s.get8 l).toNat * 2 ^ (s.reg8 .cl).toNat % 2 ^ 8)
        fun v g => g.cf = (decide ((s.reg8 .cl).toNat ≤ 8) && (s.get8 l).getLsbD (8 - (s.reg8 .cl).toNat)) ∧
        OrdinaryFlags s v g)
      (fun i l => Runs16 s i (reads16 s l) l (fun v => v.toNat = (s.get16 l).toNat * 2 ^ (s.reg8 .cl).toNat % 2 ^ 16)
        fun v g => g.cf = (decide ((s.reg8 .cl).toNat ≤ 16) && (s.get16 l).getLsbD (16 - (s.reg8 .cl).toNat)) ∧
        OrdinaryFlags s v g)
      .shlRm8Cl .shlRm16Cl) ∧
    (s.reg8 .cl = 0 → ByteAndWord s
      (fun i l => Runs8 s i (reads8 s l) l (fun v => v = (s.get8 l))
        fun _ g => g = s.flags)
      (fun i l => Runs16 s i (reads16 s l) l (fun v => v = (s.get16 l))
        fun _ g => g = s.flags)
      .shlRm8Cl .shlRm16Cl) ∧
    (s.reg8 .cl ≠ 0 → ByteAndWord s
      (fun i l => Runs8 s i (reads8 s l) l (fun v => v.toNat = (s.get8 l).toNat / 2 ^ (s.reg8 .cl).toNat)
        fun v g => g.cf = (s.get8 l).getLsbD ((s.reg8 .cl).toNat - 1) ∧ OrdinaryFlags s v g)
      (fun i l => Runs16 s i (reads16 s l) l (fun v => v.toNat = (s.get16 l).toNat / 2 ^ (s.reg8 .cl).toNat)
        fun v g => g.cf = (s.get16 l).getLsbD ((s.reg8 .cl).toNat - 1) ∧ OrdinaryFlags s v g)
      .shrRm8Cl .shrRm16Cl) ∧
    (s.reg8 .cl = 0 → ByteAndWord s
      (fun i l => Runs8 s i (reads8 s l) l (fun v => v = (s.get8 l))
        fun _ g => g = s.flags)
      (fun i l => Runs16 s i (reads16 s l) l (fun v => v = (s.get16 l))
        fun _ g => g = s.flags)
      .shrRm8Cl .shrRm16Cl) ∧
    (s.reg8 .cl ≠ 0 → ByteAndWord s
      (fun i l => Runs8 s i (reads8 s l) l (fun v => v.toInt = (s.get8 l).toInt / 2 ^ (s.reg8 .cl).toNat)
        fun v g => g.cf = (if (s.reg8 .cl).toNat ≤ 8 then (s.get8 l).getLsbD ((s.reg8 .cl).toNat - 1) else (s.get8 l).msb) ∧
        OrdinaryFlags s v g)
      (fun i l => Runs16 s i (reads16 s l) l (fun v => v.toInt = (s.get16 l).toInt / 2 ^ (s.reg8 .cl).toNat)
        fun v g => g.cf = (if (s.reg8 .cl).toNat ≤ 16 then (s.get16 l).getLsbD ((s.reg8 .cl).toNat - 1) else (s.get16 l).msb) ∧
        OrdinaryFlags s v g)
      .sarRm8Cl .sarRm16Cl) ∧
    (s.reg8 .cl = 0 → ByteAndWord s
      (fun i l => Runs8 s i (reads8 s l) l (fun v => v = (s.get8 l))
        fun _ g => g = s.flags)
      (fun i l => Runs16 s i (reads16 s l) l (fun v => v = (s.get16 l))
        fun _ g => g = s.flags)
      .sarRm8Cl .sarRm16Cl)

/-- R233 to R236 with R232, static forms. The bus cycles of the frame (R74, R86, R417) are recorded in the form of
log 10. -/
def Obligations.RotatesByOne : Prop :=
  ∀ s : State, s.mem.wf = true →
    ByteAndWord s
      (fun i l => Runs8 s i (reads8 s l) l (fun v => v.toNat = (2 * (s.get8 l).toNat + (s.get8 l).msb.toNat) % 2 ^ 8)
        fun v g => g.cf = (s.get8 l).msb ∧
        (g.of = true ↔ (s.get8 l).msb ≠ v.msb) ∧ RotateFlags s.flags g)
      (fun i l => Runs16 s i (reads16 s l) l (fun v => v.toNat = (2 * (s.get16 l).toNat + (s.get16 l).msb.toNat) % 2 ^ 16)
        fun v g => g.cf = (s.get16 l).msb ∧
        (g.of = true ↔ (s.get16 l).msb ≠ v.msb) ∧ RotateFlags s.flags g)
      .rolRm8One .rolRm16One ∧
    ByteAndWord s
      (fun i l => Runs8 s i (reads8 s l) l (fun v => v.toNat = (s.get8 l).toNat / 2 + 2 ^ (8 - 1) * ((s.get8 l).toNat % 2))
        fun v g => g.cf = (s.get8 l).getLsbD 0 ∧
        (g.of = true ↔ (s.get8 l).msb ≠ v.msb) ∧ RotateFlags s.flags g)
      (fun i l => Runs16 s i (reads16 s l) l (fun v => v.toNat = (s.get16 l).toNat / 2 + 2 ^ (16 - 1) * ((s.get16 l).toNat % 2))
        fun v g => g.cf = (s.get16 l).getLsbD 0 ∧
        (g.of = true ↔ (s.get16 l).msb ≠ v.msb) ∧ RotateFlags s.flags g)
      .rorRm8One .rorRm16One ∧
    ByteAndWord s
      (fun i l => Runs8 s i (reads8 s l) l (fun v => v.toNat = (2 * (s.get8 l).toNat + s.flags.cf.toNat) % 2 ^ 8)
        fun v g => g.cf = (s.get8 l).msb ∧
        (g.of = true ↔ (s.get8 l).msb ≠ v.msb) ∧ RotateFlags s.flags g)
      (fun i l => Runs16 s i (reads16 s l) l (fun v => v.toNat = (2 * (s.get16 l).toNat + s.flags.cf.toNat) % 2 ^ 16)
        fun v g => g.cf = (s.get16 l).msb ∧
        (g.of = true ↔ (s.get16 l).msb ≠ v.msb) ∧ RotateFlags s.flags g)
      .rclRm8One .rclRm16One ∧
    ByteAndWord s
      (fun i l => Runs8 s i (reads8 s l) l (fun v => v.toNat = (s.get8 l).toNat / 2 + 2 ^ (8 - 1) * s.flags.cf.toNat)
        fun _ g => g.cf = (s.get8 l).getLsbD 0 ∧
        (g.of = true ↔ s.flags.cf ≠ (s.get8 l).msb) ∧ RotateFlags s.flags g)
      (fun i l => Runs16 s i (reads16 s l) l (fun v => v.toNat = (s.get16 l).toNat / 2 + 2 ^ (16 - 1) * s.flags.cf.toNat)
        fun _ g => g.cf = (s.get16 l).getLsbD 0 ∧
        (g.of = true ↔ s.flags.cf ≠ (s.get16 l).msb) ∧ RotateFlags s.flags g)
      .rcrRm8One .rcrRm16One

/-- R233 to R236 with R231, R232 and check K8: dynamic forms; OF is anything for a count that is not 0. The write
back for the count 0 is R231, against 93_implementation_defined.md A19 (log 25, DESIGN CHOICE). The bus cycles of
the frame (R74, R86, R417) are recorded in the form of log 10. -/
def Obligations.RotatesByCl : Prop :=
  ∀ s : State, s.mem.wf = true →
    (s.reg8 .cl ≠ 0 → ByteAndWord s
      (fun i l => Runs8 s i (reads8 s l) l (fun v => ∀ k < 8, v.getLsbD ((k + (s.reg8 .cl).toNat) % 8) = (s.get8 l).getLsbD k)
        fun v g => g.cf = v.getLsbD 0 ∧
        RotateFlags s.flags g)
      (fun i l => Runs16 s i (reads16 s l) l (fun v => ∀ k < 16, v.getLsbD ((k + (s.reg8 .cl).toNat) % 16) = (s.get16 l).getLsbD k)
        fun v g => g.cf = v.getLsbD 0 ∧
        RotateFlags s.flags g)
      .rolRm8Cl .rolRm16Cl) ∧
    (s.reg8 .cl = 0 → ByteAndWord s
      (fun i l => Runs8 s i (reads8 s l) l (fun v => v = (s.get8 l))
        fun _ g => g = s.flags)
      (fun i l => Runs16 s i (reads16 s l) l (fun v => v = (s.get16 l))
        fun _ g => g = s.flags)
      .rolRm8Cl .rolRm16Cl) ∧
    (s.reg8 .cl ≠ 0 → ByteAndWord s
      (fun i l => Runs8 s i (reads8 s l) l (fun v => ∀ k < 8, v.getLsbD k = (s.get8 l).getLsbD ((k + (s.reg8 .cl).toNat) % 8))
        fun v g => g.cf = v.msb ∧ RotateFlags s.flags g)
      (fun i l => Runs16 s i (reads16 s l) l (fun v => ∀ k < 16, v.getLsbD k = (s.get16 l).getLsbD ((k + (s.reg8 .cl).toNat) % 16))
        fun v g => g.cf = v.msb ∧ RotateFlags s.flags g)
      .rorRm8Cl .rorRm16Cl) ∧
    (s.reg8 .cl = 0 → ByteAndWord s
      (fun i l => Runs8 s i (reads8 s l) l (fun v => v = (s.get8 l))
        fun _ g => g = s.flags)
      (fun i l => Runs16 s i (reads16 s l) l (fun v => v = (s.get16 l))
        fun _ g => g = s.flags)
      .rorRm8Cl .rorRm16Cl) ∧
    (s.reg8 .cl ≠ 0 → ByteAndWord s
      (fun i l => Runs8 s i (reads8 s l) l (fun _ => True)
        fun v g => (∀ k < 8 + 1,
        ringBit v g.cf ((k + (s.reg8 .cl).toNat) % (8 + 1)) = ringBit (s.get8 l) s.flags.cf k) ∧ RotateFlags s.flags g)
      (fun i l => Runs16 s i (reads16 s l) l (fun _ => True)
        fun v g => (∀ k < 16 + 1,
        ringBit v g.cf ((k + (s.reg8 .cl).toNat) % (16 + 1)) = ringBit (s.get16 l) s.flags.cf k) ∧ RotateFlags s.flags g)
      .rclRm8Cl .rclRm16Cl) ∧
    (s.reg8 .cl = 0 → ByteAndWord s
      (fun i l => Runs8 s i (reads8 s l) l (fun v => v = (s.get8 l))
        fun _ g => g = s.flags)
      (fun i l => Runs16 s i (reads16 s l) l (fun v => v = (s.get16 l))
        fun _ g => g = s.flags)
      .rclRm8Cl .rclRm16Cl) ∧
    (s.reg8 .cl ≠ 0 → ByteAndWord s
      (fun i l => Runs8 s i (reads8 s l) l (fun _ => True)
        fun v g => (∀ k < 8 + 1,
        ringBit v g.cf k = ringBit (s.get8 l) s.flags.cf ((k + (s.reg8 .cl).toNat) % (8 + 1))) ∧ RotateFlags s.flags g)
      (fun i l => Runs16 s i (reads16 s l) l (fun _ => True)
        fun v g => (∀ k < 16 + 1,
        ringBit v g.cf k = ringBit (s.get16 l) s.flags.cf ((k + (s.reg8 .cl).toNat) % (16 + 1))) ∧ RotateFlags s.flags g)
      .rcrRm8Cl .rcrRm16Cl) ∧
    (s.reg8 .cl = 0 → ByteAndWord s
      (fun i l => Runs8 s i (reads8 s l) l (fun v => v = (s.get8 l))
        fun _ g => g = s.flags)
      (fun i l => Runs16 s i (reads16 s l) l (fun v => v = (s.get16 l))
        fun _ g => g = s.flags)
      .rcrRm8Cl .rcrRm16Cl)

/-- R60, R63, R72, R75, R76 and R417; at offset FFFFh the place of the high byte is the model's free choice (R72,
log 7), and the bus record is the model's own (log 10). -/
def Obligations.WordStorage : Prop :=
  ∀ s : State, s.mem.wf = true →
    ∀ seg off v : Word,
    (physAddr seg off).toNat = (seg.toNat * 16 + off.toNat) % 2 ^ 20 ∧
    (∃ t, t = s.writeWord seg off v ∧ StoredWord t seg off v ∧ (PlainWord s seg off → t.readWord seg off = v) ∧
      (s.isMemory (physAddr seg off) = true → (t.memoryByte (physAddr seg off)).toNat = v.toNat % 256) ∧
      (off ≠ 0xFFFF → s.isMemory (physAddr seg (off + 1)) = true →
        (t.memoryByte (physAddr seg (off + 1))).toNat = v.toNat / 256) ∧
      (∀ a, ¬ covers16 s (Loc16.mem seg off) a → t.memoryByte a = s.memoryByte a) ∧ RegsKept s t ∧ t.flags = s.flags ∧
      Frame (wordCycles (lockOn s) .write seg off v) s t) ∧
    s.noteReadWord seg off = after s (wordCycles (lockOn s) .read seg off (s.readWord seg off)) ∧
    ∀ a, s.isMemory a = true → s.readPhys a = s.memoryByte a

/-- R67, R70, R108, R109, R110. -/
def Obligations.EffectiveAddress : Prop :=
  ∀ s : State,
    ((s.ea (.base .bxSi)).toNat = (s.regs.bx.toNat + s.regs.si.toNat) % 2 ^ 16 ∧
      (s.ea (.base .bxDi)).toNat = (s.regs.bx.toNat + s.regs.di.toNat) % 2 ^ 16 ∧
      (s.ea (.base .bpSi)).toNat = (s.regs.bp.toNat + s.regs.si.toNat) % 2 ^ 16 ∧
      (s.ea (.base .bpDi)).toNat = (s.regs.bp.toNat + s.regs.di.toNat) % 2 ^ 16 ∧
      s.ea (.base .si) = s.regs.si ∧ s.ea (.base .di) = s.regs.di ∧ s.ea (.base .bp) = s.regs.bp ∧
      s.ea (.base .bx) = s.regs.bx) ∧
    (∀ d, s.ea (.direct d) = d) ∧
    (∀ b d, ((s.ea (.disp8 b d)).toNat : Int) = ((s.ea (.base b)).toNat + d.toInt) % 2 ^ 16) ∧
    (∀ b d, (s.ea (.disp16 b d)).toNat = ((s.ea (.base b)).toNat + d.toNat) % 2 ^ 16) ∧
    (∀ m r, s.pfx.seg = some r → s.memSegment m = s.sreg r) ∧
    (s.pfx.seg = none → (∀ d, s.memSegment (.direct d) = s.ds) ∧
      ∀ b d e, (b = .bpSi ∨ b = .bpDi ∨ b = .bp →
          s.memSegment (.base b) = s.ss ∧ s.memSegment (.disp8 b d) = s.ss ∧ s.memSegment (.disp16 b e) = s.ss) ∧
        (b = .bxSi ∨ b = .bxDi ∨ b = .si ∨ b = .di ∨ b = .bx →
          s.memSegment (.base b) = s.ds ∧ s.memSegment (.disp8 b d) = s.ds ∧ s.memSegment (.disp16 b e) = s.ds))

/-- R141, R142, R143, R144, R147. The bus cycles of the frame (R74, R86, R417) are recorded in the form of log 10.
-/
def Obligations.MoveForms : Prop :=
  ∀ s : State, s.mem.wf = true →
    (∀ m r, Moves8 s (.movRm8R8 m r) (s.loc8 m) (s.reg8 r) []) ∧
    (∀ m r, Moves16 s (.movRm16R16 m r) (s.loc16 m) (s.reg16 r) []) ∧
    (∀ r m, Moves8 s (.movR8Rm8 r m) (.reg r) (s.get8 (s.loc8 m)) (reads8 s (s.loc8 m))) ∧
    (∀ r m, Moves16 s (.movR16Rm16 r m) (.reg r) (s.get16 (s.loc16 m)) (reads16 s (s.loc16 m))) ∧
    (∀ m v, Moves8 s (.movRm8Imm8 m v) (s.loc8 m) v []) ∧ (∀ m v, Moves16 s (.movRm16Imm16 m v) (s.loc16 m) v []) ∧
    (∀ r v, Moves8 s (.movR8Imm8 r v) (.reg r) v []) ∧ (∀ r v, Moves16 s (.movR16Imm16 r v) (.reg r) v []) ∧
    (∀ a, Moves8 s (.movAlAddr a) (.reg .al) (s.readByte (sourceSeg s) a) (reads8 s (.mem (sourceSeg s) a))) ∧
    (∀ a, Moves16 s (.movAxAddr a) (.reg .ax) (s.readWord (sourceSeg s) a) (reads16 s (.mem (sourceSeg s) a))) ∧
    (∀ a, Moves8 s (.movAddrAl a) (.mem (sourceSeg s) a) (s.reg8 .al) []) ∧
    (∀ a, Moves16 s (.movAddrAx a) (.mem (sourceSeg s) a) (s.reg16 .ax) [])

/-- R145 and R146; the note `shadow` is the model's choice for R364 (log 8). The bus cycles of the frame (R74, R86,
R417) are recorded in the form of log 10. -/
def Obligations.SegmentMoves : Prop :=
  ∀ s : State, s.mem.wf = true →
    (∀ m q, Moves16 s (.movRm16Sreg m q) (s.loc16 m) (s.sreg q) []) ∧
    ∀ m, LoadsSegment s (.movEsRm16 m) .es (s.get16 (s.loc16 m)) (reads16 s (s.loc16 m)) ∧
      LoadsSegment s (.movSsRm16 m) .ss (s.get16 (s.loc16 m)) (reads16 s (s.loc16 m)) ∧
      LoadsSegment s (.movDsRm16 m) .ds (s.get16 (s.loc16 m)) (reads16 s (s.loc16 m))

/-- R149, R150 and R330, and the lock that XCHG with a memory operand asserts by itself (R149, R89, from general
knowledge). LOCK is the flag of a bus cycle, the model's form (log 5); the minimum configuration has no LOCK output
(R381). The bus cycles of the frame (R74, R86, R417) are recorded in the form of log 10. -/
def Obligations.ExchangeForms : Prop :=
  ∀ s : State, s.mem.wf = true →
    (∀ r m, ∃ t, exec (.xchgR8Rm8 r m) s = .next t ∧ t.reg8 r = s.rm8 m ∧ Holds8 t (s.loc8 m) (s.reg8 r) ∧
      (∀ q, q ≠ r → s.loc8 m ≠ .reg q → t.reg8 q = s.reg8 q) ∧
      (t.regs.sp = s.regs.sp ∧ t.regs.bp = s.regs.bp ∧ t.regs.si = s.regs.si ∧ t.regs.di = s.regs.di) ∧
      (∀ a, ¬ covers8 s (s.loc8 m) a → t.memoryByte a = s.memoryByte a) ∧ t.flags = s.flags ∧
      Frame (cycles8 (lockable s) .write (s.loc8 m) (s.reg8 r) ++ cycles8 (lockable s) .read (s.loc8 m) (s.rm8 m)) s t) ∧
    (∀ r m, ∃ t, exec (.xchgR16Rm16 r m) s = .next t ∧ t.reg16 r = s.rm16 m ∧ Holds16 t (s.loc16 m) (s.reg16 r) ∧
      (∀ q, q ≠ r → s.loc16 m ≠ .reg q → t.reg16 q = s.reg16 q) ∧
      (∀ a, ¬ covers16 s (s.loc16 m) a → t.memoryByte a = s.memoryByte a) ∧ t.flags = s.flags ∧
      Frame (cycles16 (lockable s) .write (s.loc16 m) (s.reg16 r) ++ cycles16 (lockable s) .read (s.loc16 m) (s.rm16 m)) s t) ∧
    (SwapsAx s .xchgAxCx .cx ∧ SwapsAx s .xchgAxDx .dx ∧ SwapsAx s .xchgAxBx .bx ∧ SwapsAx s .xchgAxSp .sp ∧
      SwapsAx s .xchgAxBp .bp ∧ SwapsAx s .xchgAxSi .si ∧ SwapsAx s .xchgAxDi .di) ∧
    exec .nop s = .next s

/-- R148, R151, R152, R153. Where the double word crosses offset FFFFh, the place of the second word is the model's
free choice between the two of R72 (log 7). The bus cycles of the frame (R74, R86, R417) are recorded in the form of
log 10. -/
def Obligations.AddressLoads : Prop :=
  ∀ s : State,
    (∀ r m, ∃ t, exec (.lea r m) s = .next t ∧ t.reg16 r = s.ea m ∧ RegsKeptBut r s t ∧ t.flags = s.flags ∧
      MemoryKept s t ∧ Frame [] s t) ∧
    (∀ r m, LoadsFar s (.lds r m) r .ds m ∧ LoadsFar s (.les r m) r .es m) ∧
    (∀ seg off : Word, (off.toNat < 0xFFFE → secondSegment seg off = seg) ∧
      (secondSegment seg off = seg ∨ secondSegment seg off = seg + 0x1000)) ∧
    ∃ t, exec .xlat s = .next t ∧ t.reg8 .al = s.readByte (sourceSeg s) (s.regs.bx + (s.reg8 .al).setWidth 16) ∧
      t.reg8 .ah = s.reg8 .ah ∧ RegsKeptBut .ax s t ∧ t.flags = s.flags ∧ MemoryKept s t ∧
      Frame (reads8 s (.mem (sourceSeg s) (s.regs.bx + (s.reg8 .al).setWidth 16))) s t

/-- R154 and R155; AH bits 5, 3, 1 after LAHF are anything (R33). -/
def Obligations.FlagByte : Prop :=
  ∀ s : State,
    (∃ t, exec .lahf s = .next t ∧ (t.reg8 .ah).getLsbD 7 = s.flags.sf ∧ (t.reg8 .ah).getLsbD 6 = s.flags.zf ∧
      (t.reg8 .ah).getLsbD 4 = s.flags.af ∧ (t.reg8 .ah).getLsbD 2 = s.flags.pf ∧
      (t.reg8 .ah).getLsbD 0 = s.flags.cf ∧ t.reg8 .al = s.reg8 .al ∧ RegsKeptBut .ax s t ∧ t.flags = s.flags ∧
      MemoryKept s t ∧ Frame [] s t) ∧
    ∃ t, exec .sahf s = .next t ∧ t.flags = { s.flags with
        sf := (s.reg8 .ah).getLsbD 7, zf := (s.reg8 .ah).getLsbD 6, af := (s.reg8 .ah).getLsbD 4
        pf := (s.reg8 .ah).getLsbD 2, cf := (s.reg8 .ah).getLsbD 0 } ∧ RegsKept s t ∧ MemoryKept s t ∧ Frame [] s t

/-- R160, R162, R164, R166. What PUSH SP stores is from general knowledge and the decision D23 (R162). The place of
the high byte of a push with SP = 0001h, which R72 refuses by default, is the model's free choice between its two
places (log 7). The bus cycles of the frame (R74, R86, R417) are recorded in the form of log 10. -/
def Obligations.PushForms : Prop :=
  ∀ s : State, s.mem.wf = true →
    (∀ r, r ≠ .sp → Pushes s (.pushR16 r) (s.reg16 r) []) ∧ Pushes s (.pushR16 .sp) (s.regs.sp - 2) [] ∧
      (∀ m, m ≠ .reg .sp → Pushes s (.pushRm16 m) (s.get16 (s.loc16 m)) (reads16 s (s.loc16 m))) ∧
      Pushes s (.pushRm16 (.reg .sp)) (s.regs.sp - 2) [] ∧
      Pushes s .pushEs s.es [] ∧ Pushes s .pushCs s.cs [] ∧ Pushes s .pushSs s.ss [] ∧ Pushes s .pushDs s.ds []

/-- R161, R163, R165, R167; the note `shadow` is the model's choice for R364 (log 8). The bus cycles of the frame
(R74, R86, R417) are recorded in the form of log 10. -/
def Obligations.PopForms : Prop :=
  ∀ s : State, s.mem.wf = true →
    (∀ r, Pops s (.popR16 r) (.reg r)) ∧ (∀ m, Pops s (.popRm16 m) (s.loc16 m)) ∧ PopsSegment s .popEs .es ∧
      PopsSegment s .popSs .ss ∧ PopsSegment s .popDs .ds

/-- The stack round trip of R160 and R161. The bus cycles of the frame (R74, R86, R417) are recorded in the form of
log 10. -/
def Obligations.PushPop : Prop :=
  ∀ s : State, s.mem.wf = true →
    ∀ r q, r ≠ .sp → q ≠ .sp → PlainWord s s.ss (s.regs.sp - 2) →
      ∃ t u, exec (.pushR16 r) s = .next t ∧ exec (.popR16 q) t = .next u ∧ u.reg16 q = s.reg16 r ∧ RegsKeptBut q s u ∧
        u.flags = s.flags ∧ (∀ a, ¬ covers16 s (Loc16.mem s.ss (s.regs.sp - 2)) a → u.memoryByte a = s.memoryByte a) ∧
        Frame (wordCycles (lockOn s) .read s.ss (s.regs.sp - 2) (s.reg16 r) ++ pushCycles s (s.reg16 r)) s u

/-- R170 and R171, bits as in R32; the seven other bits are anything (R33). The bus cycles of the frame (R74, R86,
R417) are recorded in the form of log 10. -/
def Obligations.FlagImage : Prop :=
  ∀ s : State, s.mem.wf = true →
    (∃ t w, exec .pushf s = .next t ∧ Pushed s t w ∧ FlagBits w s.flags ∧ Frame (pushCycles s w) s t ∧
      (PlainWord s s.ss (s.regs.sp - 2) → ∃ u, exec .popf t = .next u ∧ u.flags = s.flags ∧ RegsKept s u)) ∧
    ∃ t, exec .popf s = .next t ∧ FlagBits (topWord s) t.flags ∧ t.regs.sp = s.regs.sp + 2 ∧ RegsKeptBut .sp s t ∧
      MemoryKept s t ∧ Frame (topCycles s) s t

/-- R168, R169, R81; the value read is anything (R85), the bus record is the model's own (log 10). -/
def Obligations.PortTransfers : Prop :=
  ∀ s : State,
    (∀ p : Byte, Inputs8 s (.inAlPort p) (p.setWidth 16) ∧ Inputs16 s (.inAxPort p) (p.setWidth 16) ∧
      Outputs8 s (.outPortAl p) (p.setWidth 16) ∧ Outputs16 s (.outPortAx p) (p.setWidth 16)) ∧
    Inputs8 s .inAlDx s.regs.dx ∧ Inputs16 s .inAxDx s.regs.dx ∧ Outputs8 s .outDxAl s.regs.dx ∧
    Outputs16 s .outDxAx s.regs.dx

/-- R251 to R255; for a double word that crosses offset FFFFh see statement AddressLoads (R72, log 7). The bus
cycles of the frame (R74, R86, R417) are recorded in the form of log 10. -/
def Obligations.JumpForms : Prop :=
  ∀ s : State,
    (∀ rel : Byte, JumpsNear s (.jmpShort rel) (s.ip + rel.signExtend 16) []) ∧
      (∀ rel : Word, JumpsNear s (.jmpNear rel) (s.ip + rel) []) ∧
      (∀ m, JumpsNear s (.jmpRm16 m) (s.get16 (s.loc16 m)) (reads16 s (s.loc16 m))) ∧
      (∀ off seg, JumpsFar s (.jmpFar off seg) seg off []) ∧
      (∀ m, JumpsFar s (.jmpMem m) (farSecond s m) (farFirst s m) (farCycles s m))

/-- R256, the common operation, with the condition of each jump, R257 to R272, and R277. -/
def Obligations.ConditionalJumps : Prop :=
  ∀ (s : State) (rel : Byte),
    BranchesOn s (.jo rel) rel (s.flags.of = true) ∧
    BranchesOn s (.jno rel) rel (s.flags.of = false) ∧
    BranchesOn s (.jb rel) rel (s.flags.cf = true) ∧
    BranchesOn s (.jae rel) rel (s.flags.cf = false) ∧
    BranchesOn s (.je rel) rel (s.flags.zf = true) ∧
    BranchesOn s (.jne rel) rel (s.flags.zf = false) ∧
    BranchesOn s (.jbe rel) rel (s.flags.cf = true ∨ s.flags.zf = true) ∧
    BranchesOn s (.ja rel) rel (s.flags.cf = false ∧ s.flags.zf = false) ∧
    BranchesOn s (.js rel) rel (s.flags.sf = true) ∧
    BranchesOn s (.jns rel) rel (s.flags.sf = false) ∧
    BranchesOn s (.jp rel) rel (s.flags.pf = true) ∧
    BranchesOn s (.jnp rel) rel (s.flags.pf = false) ∧
    BranchesOn s (.jl rel) rel (s.flags.sf ≠ s.flags.of) ∧
    BranchesOn s (.jge rel) rel (s.flags.sf = s.flags.of) ∧
    BranchesOn s (.jle rel) rel (s.flags.zf = true ∨ s.flags.sf ≠ s.flags.of) ∧
    BranchesOn s (.jg rel) rel (s.flags.zf = false ∧ s.flags.sf = s.flags.of) ∧
    BranchesOn s (.jcxz rel) rel (s.regs.cx = 0)

/-- R273, Table 1.4, for every pair of operands of both widths. -/
def Obligations.CompareAndJump : Prop :=
  ∀ (s : State) (rel : Byte),
    (∀ d r, ∃ t, exec (.cmpRm8R8 d r) s = .next t ∧ t.ip = s.ip ∧
      BranchesOn t (.ja rel) rel ((s.reg8 r).toNat < (s.rm8 d).toNat) ∧
      BranchesOn t (.jae rel) rel ((s.reg8 r).toNat ≤ (s.rm8 d).toNat) ∧
      BranchesOn t (.jb rel) rel ((s.rm8 d).toNat < (s.reg8 r).toNat) ∧
      BranchesOn t (.jbe rel) rel ((s.rm8 d).toNat ≤ (s.reg8 r).toNat) ∧
      BranchesOn t (.je rel) rel ((s.rm8 d).toNat = (s.reg8 r).toNat) ∧
      BranchesOn t (.jne rel) rel ((s.rm8 d).toNat ≠ (s.reg8 r).toNat) ∧
      BranchesOn t (.jg rel) rel ((s.reg8 r).toInt < (s.rm8 d).toInt) ∧
      BranchesOn t (.jge rel) rel ((s.reg8 r).toInt ≤ (s.rm8 d).toInt) ∧
      BranchesOn t (.jl rel) rel ((s.rm8 d).toInt < (s.reg8 r).toInt) ∧
      BranchesOn t (.jle rel) rel ((s.rm8 d).toInt ≤ (s.reg8 r).toInt)) ∧
    (∀ d r, ∃ t, exec (.cmpRm16R16 d r) s = .next t ∧ t.ip = s.ip ∧
      BranchesOn t (.ja rel) rel ((s.reg16 r).toNat < (s.rm16 d).toNat) ∧
      BranchesOn t (.jae rel) rel ((s.reg16 r).toNat ≤ (s.rm16 d).toNat) ∧
      BranchesOn t (.jb rel) rel ((s.rm16 d).toNat < (s.reg16 r).toNat) ∧
      BranchesOn t (.jbe rel) rel ((s.rm16 d).toNat ≤ (s.reg16 r).toNat) ∧
      BranchesOn t (.je rel) rel ((s.rm16 d).toNat = (s.reg16 r).toNat) ∧
      BranchesOn t (.jne rel) rel ((s.rm16 d).toNat ≠ (s.reg16 r).toNat) ∧
      BranchesOn t (.jg rel) rel ((s.reg16 r).toInt < (s.rm16 d).toInt) ∧
      BranchesOn t (.jge rel) rel ((s.reg16 r).toInt ≤ (s.rm16 d).toInt) ∧
      BranchesOn t (.jl rel) rel ((s.rm16 d).toInt < (s.reg16 r).toInt) ∧
      BranchesOn t (.jle rel) rel ((s.rm16 d).toInt ≤ (s.reg16 r).toInt))

/-- R274 to R276, with the condition of 90_conflicts.md C1. -/
def Obligations.LoopForms : Prop :=
  ∀ (s : State) (rel : Byte),
    LoopsOn s (.loop rel) rel True ∧ LoopsOn s (.loope rel) rel (s.flags.zf = true) ∧
      LoopsOn s (.loopne rel) rel (s.flags.zf = false)

/-- R278 to R281. The order of the two pushes of a far call is in the operation lines of R280 and R281; R280 marks
the sentence on it as derived from R284. The operand read before the push is from general knowledge (R279, R281);
for a double word that crosses offset FFFFh see AddressLoads (log 7). The bus cycles of the frame (R74, R86, R417)
are recorded in the form of log 10. -/
def Obligations.CallForms : Prop :=
  ∀ s : State, s.mem.wf = true →
    (∀ rel, CallsNear s (.callNear rel) (s.ip + rel) []) ∧
      (∀ m, CallsNear s (.callRm16 m) (s.get16 (s.loc16 m)) (reads16 s (s.loc16 m))) ∧
      (∀ off seg, CallsFar s (.callFar off seg) seg off []) ∧
      (∀ m, CallsFar s (.callMem m) (farSecond s m) (farFirst s m) (farCycles s m))

/-- R282 to R285. The bus cycles of the frame (R74, R86, R417) are recorded in the form of log 10. -/
def Obligations.NearAndFarReturns : Prop :=
  ∀ s : State,
    Returns s .retNear s.cs (topWord s) (s.regs.sp + 2) (topCycles s) ∧
      (∀ n, Returns s (.retNearN n) s.cs (topWord s) (s.regs.sp + 2 + n) (topCycles s)) ∧
      Returns s .retFar (secondWord s) (topWord s) (s.regs.sp + 4) (twoCycles s) ∧
      (∀ n, Returns s (.retFarN n) (secondWord s) (topWord s) (s.regs.sp + 4 + n) (twoCycles s))

/-- The round trips of R278 with R282 and R280 with R284. -/
def Obligations.CallReturn : Prop :=
  ∀ s : State, s.mem.wf = true →
    (PlainWord s s.ss (s.regs.sp - 2) → ∀ rel, ∃ t u, exec (.callNear rel) s = .next t ∧ exec .retNear t = .next u ∧
      u.ip = s.ip ∧ RegsKept s u ∧
      u.flags = s.flags ∧ Segs s u) ∧
    (PlainWord s s.ss (s.regs.sp - 2) → PlainWord s s.ss (s.regs.sp - 4) → ∀ off seg, ∃ t u,
      exec (.callFar off seg) s = .next t ∧ exec .retFar t = .next u ∧ u.ip = s.ip ∧ RegsKept s u ∧
      u.flags = s.flags ∧ Segs s u)

/-- R286, R287, R288 with R356 and R357. The note `raised` and the end of the halt state are the model's (log 20,
18), and so is that a LOCK prefix ends before the sequence (log 5, DEDUCED). The bus cycles of the frame (R74, R86,
R417) are recorded in the form of log 10. -/
def Obligations.SoftwareInterrupts : Prop :=
  ∀ s : State, s.mem.wf = true →
    (∀ n, Enters s (.intN n) n) ∧ Enters s .int3 3 ∧ (s.flags.of = true → Enters s .into 4) ∧
      (s.flags.of = false → exec .into s = .next s)

/-- R289. The bus cycles of the frame (R74, R86, R417) are recorded in the form of log 10. -/
def Obligations.InterruptReturn : Prop :=
  ∀ s : State, ∃ t, exec .iret s = .next t ∧ t.ip = topWord s ∧ t.cs = secondWord s ∧
    FlagBits (thirdWord s) t.flags ∧ t.regs.sp = s.regs.sp + 6 ∧ RegsKeptBut .sp s t ∧
    MemoryKept s t ∧ t.es = s.es ∧ t.ss = s.ss ∧ t.ds = s.ds ∧ Inner s t ∧ t.shadow = s.shadow ∧
    t.bus = threeCycles s ++ s.bus

/-- R361: the return restores what the sequence saved. -/
def Obligations.InterruptRoundTrip : Prop :=
  ∀ s : State, s.mem.wf = true →
    PlainWord s s.ss (s.regs.sp - 2) → PlainWord s s.ss (s.regs.sp - 4) → PlainWord s s.ss (s.regs.sp - 6) →
    ∀ n, ∃ t u, exec (.intN n) s = .next t ∧ exec .iret t = .next u ∧ u.ip = s.ip ∧ u.flags = s.flags ∧ RegsKept s u ∧
      Segs s u

/-- R360: TF at the start of the instruction decides, whatever the instruction does to TF. That the trap owed by HLT
ends the halt state is log 18 (DEDUCED); the premise on `shadow` leaves out the boundary after STI, MOV sreg and POP
sreg, where INT_SHADOW decides (R364, log 8). That something answers every bus cycle is the premise NoHoles (R78).
-/
def Obligations.SingleStep : Prop :=
  ∀ (s u t : State) (i : Instr), s.ready → NoHoles s → s.fetch = .ok (i, u) → s.misplacedRepeat i = false →
    isPrefix i = false →
    exec i u = .next t → t.inProgress = none → t.shadow = false → t.raised = false → t.mem.wf = true →
    ¬ Requested t false →
    (s.flags.tf = true → ∃ w, Entered { t with pfx := Prefixes.none } w 1 ∧ step s = .next (w.afterSequence false).trim) ∧
    (s.flags.tf = false → ∃ w, step s = .next w ∧ w.ip = t.ip ∧ Segs t w ∧ w.flags = t.flags ∧ RegsKept t w ∧
      MemoryKept t w)

/-- R353, Boundary and Seq, with INT_SHADOW at `none` (the premise that no shadow is set). `afterSequence` is Seq
after its sequence; the pulses of R352 inside the step stand in `nmiDuring`, one entry a sequence (log 12, DESIGN
CHOICE). The note `raised` stands for the rule's first case (log 20, DEDUCED), and every sequence, the owed trap
too, ends the halt state (log 18, DEDUCED). The two acknowledge cycles of INTR come before its sequence (R355); that
the type byte comes in the second is log 12 (PRESUMED). -/
def Obligations.BoundaryOrder : Prop :=
  ∀ s : State, s.mem.wf = true →
    let quiet := { s with shadow := false, raised := false }
    let intr := s.pins.intrLevel = true ∧ s.flags.ifl = true
    let latched := { s with pins := { s.pins with
        nmiPending := s.pins.nmiPending || s.pins.nmiDuring.headD false, nmiDuring := s.pins.nmiDuring.tail } }
    let enters := fun (v w : State) (n : Byte) (owed : Bool) =>
      ∃ u, Entered v u n ∧ u.mem.wf = true ∧ w = u.afterSequence owed;
    (s.shadow = false → ∀ tf0,
      (s.raised = true → s.boundary tf0 = quiet.afterSequence tf0) ∧
      (s.raised = false → s.pins.nmiPending = true → enters (nmiTaken s) (s.boundary tf0) 2 tf0) ∧
      (s.raised = false → s.pins.nmiPending = false → intr →
        enters (acknowledgedState s) (s.boundary tf0) s.pins.intrType tf0) ∧
      (s.raised = false → s.pins.nmiPending = false → ¬ intr → tf0 = true → enters s (s.boundary tf0) 1 false) ∧
      (s.raised = false → s.pins.nmiPending = false → ¬ intr → tf0 = false → s.boundary tf0 = quiet)) ∧
    ∀ owed,
      (latched.pins.nmiPending = true → enters (nmiTaken latched) (s.afterSequence owed) 2 false) ∧
      (latched.pins.nmiPending = false → owed = true → enters latched (s.afterSequence owed) 1 false) ∧
      (latched.pins.nmiPending = false → owed = false → s.afterSequence owed = latched)

/-- R327 (with INTR below NMI as R353 orders them). That a halted step with no request is a step at all is the
model's choice (log 19); that the type byte comes in the second acknowledge cycle is log 12 (PRESUMED). -/
def Obligations.Halting : Prop :=
  (∀ s : State, exec .hlt s = .next { s with halted := true }) ∧
  ∀ s : State, s.Inv → NoHoles s → s.pins.clr = false → s.pins.clrInside = false → s.halted = true →
    (s.pins.nmiPending = false → ¬ (s.pins.intrLevel = true ∧ s.flags.ifl = true) → step s = .next s) ∧
    (s.pins.nmiPending = true → ∃ t, Entered (nmiTaken s) t 2 ∧ step s = .next (t.afterSequence false)) ∧
    (s.pins.nmiPending = false → s.pins.intrLevel = true → s.flags.ifl = true →
      ∃ t, Entered (acknowledgedState s) t s.pins.intrType ∧ step s = .next (t.afterSequence false))

/-- R304, R328, R365. The saved offset is that of the first prefix byte, if there is one (log 16, 17); that the type
byte comes in the second acknowledge cycle is log 12 (PRESUMED). -/
def Obligations.InterruptWindow : Prop :=
  ∀ (s t : State) (i : Instr), s.Inv → NoHoles s → s.pins.clr = false → s.pins.clrInside = false →
    s.halted = false → s.inProgress = some i → exec i { s with inProgress := none } = .next t →
    t.inProgress = some i → t.mem.wf = true →
    (¬ Requested t s.flags.tf → step s = .next t.trim) ∧
    (Requested t s.flags.tf → t.pfx.rep ≠ none → (t.pfx.seg ≠ none ∨ t.pfx.lock = true) →
      step s = .refused .interruptedWithTwoPrefixes) ∧
    (t.pfx.rep = none ∨ (t.pfx.seg = none ∧ t.pfx.lock = false) →
      let left := { t with ip := t.start, inProgress := none, pfx := Prefixes.none };
      (t.pins.nmiPending = true →
        ∃ u, Entered (nmiTaken left) u 2 ∧ step s = .next (u.afterSequence s.flags.tf).trim) ∧
      (t.pins.nmiPending = false → t.pins.intrLevel = true → t.flags.ifl = true →
        ∃ u, Entered (acknowledgedState left) u t.pins.intrType ∧ step s = .next (u.afterSequence s.flags.tf).trim) ∧
      (t.pins.nmiPending = false → ¬ (t.pins.intrLevel = true ∧ t.flags.ifl = true) → s.flags.tf = true →
        ∃ u, Entered left u 1 ∧ step s = .next (u.afterSequence false).trim))

/-- R305, R308, R309 with R300 and R301. The bus cycles of the frame (R74, R86, R417) are recorded in the form of
log 10. -/
def Obligations.StringMoves : Prop :=
  ∀ s : State, s.mem.wf = true → s.pfx.rep = none →
    StoresElement8 s .movsb (s.readByte (sourceSeg s) s.regs.si) true (reads8 s (source8 s)) ∧
    StoresElement16 s .movsw (s.readWord (sourceSeg s) s.regs.si) true (reads16 s (source16 s)) ∧
    StoresElement8 s .stosb (s.reg8 .al) false [] ∧ StoresElement16 s .stosw s.regs.ax false [] ∧
    (∃ t, exec .lodsb s = .next t ∧ t.reg8 .al = s.readByte (sourceSeg s) s.regs.si ∧ t.reg8 .ah = s.reg8 .ah ∧
      t.regs.si = stepped s s.regs.si 1 ∧ (∀ r, r ≠ .ax → r ≠ .si → t.reg16 r = s.reg16 r) ∧ t.flags = s.flags ∧
      MemoryKept s t ∧ Frame (reads8 s (source8 s)) s t) ∧
    (∃ t, exec .lodsw s = .next t ∧ t.regs.ax = s.readWord (sourceSeg s) s.regs.si ∧
      t.regs.si = stepped s s.regs.si 2 ∧ (∀ r, r ≠ .ax → r ≠ .si → t.reg16 r = s.reg16 r) ∧ t.flags = s.flags ∧
      MemoryKept s t ∧ Frame (reads16 s (source16 s)) s t)

/-- R306 and R307 with R45 and R301. The bus cycles of the frame (R74, R86, R417) are recorded in the form of log
10. -/
def Obligations.StringCompares : Prop :=
  ∀ s : State, s.pfx.rep = none →
    ComparesElement8 s .cmpsb (s.get8 (source8 s)) ((after s (reads8 s (source8 s))).get8 (dest8 s)) true
      (reads8 (after s (reads8 s (source8 s))) (dest8 s) ++ reads8 s (source8 s)) ∧
    ComparesElement16 s .cmpsw (s.get16 (source16 s)) ((after s (reads16 s (source16 s))).get16 (dest16 s)) true
      (reads16 (after s (reads16 s (source16 s))) (dest16 s) ++ reads16 s (source16 s)) ∧
    ComparesElement8 s .scasb (s.reg8 .al) (s.get8 (dest8 s)) false (reads8 s (dest8 s)) ∧
    ComparesElement16 s .scasw s.regs.ax (s.get16 (dest16 s)) false (reads16 s (dest16 s))

/-- R302: one element of the loop; that an element is one step is the model's form of it (log 16). -/
def Obligations.RepeatedStrings : Prop :=
  ∀ (s : State) (i : Instr) (p : RepeatPrefix), isString i = true → s.pfx.rep = some p →
    (s.regs.cx = 0 → exec i s = .next s) ∧
    (s.regs.cx ≠ 0 → s.inProgress = none →
      ∃ u t, exec i { s with pfx := { s.pfx with rep := none } } = .next u ∧ exec i s = .next t ∧
        t.regs.cx = s.regs.cx - 1 ∧ RegsKeptBut .cx u t ∧ t.flags = u.flags ∧ MemoryKept u t ∧ Segs s t ∧
        t.ip = s.ip ∧ t.pfx = s.pfx ∧ t.bus = u.bus ∧ (t.inProgress = some i ∨ t.inProgress = none) ∧
        (t.inProgress = some i ↔ t.regs.cx ≠ 0 ∧ ¬ (comparesElements i ∧ endsOn p t.flags.zf)))

/-- R320 to R326; the note `shadow` after STI is the model's choice for R364 (log 8). -/
def Obligations.FlagInstructions : Prop :=
  ∀ s : State,
    exec .stc s = .next { s with flags := { s.flags with cf := true } } ∧
      exec .clc s = .next { s with flags := { s.flags with cf := false } } ∧
      exec .cmc s = .next { s with flags := { s.flags with cf := !s.flags.cf } } ∧
      exec .std s = .next { s with flags := { s.flags with df := true } } ∧
      exec .cld s = .next { s with flags := { s.flags with df := false } } ∧
      exec .sti s = .next { s with flags := { s.flags with ifl := true }, shadow := true } ∧
      exec .cli s = .next { s with flags := { s.flags with ifl := false } }

/-- R328 and R331. One test of TEST a step is the model's form (log 17); the coprocessor is outside the model (log
22). The bus cycles of the frame (R74, R86, R417) are recorded in the form of log 10. -/
def Obligations.WaitAndEscape : Prop :=
  ∀ s : State,
    (s.pins.testLevel = false → exec .wait s = .next s) ∧
      (s.pins.testLevel = true → exec .wait s = .next { s with inProgress := some .wait }) ∧
      ∀ hi lo m, exec (.esc hi lo m) s = .next (after s (reads16 s (s.loc16 m)))

/-- R52, R116 to R119, R329, R332; a prefix as a step of its own is the model's form (log 15). The LOCK output is
that of R89 and R381, released at the windows of a repeated string instruction (D38). -/
def Obligations.PrefixBytes : Prop :=
  ∀ s : State,
    Overrides s .overrideEs .es ∧ Overrides s .overrideCs .cs ∧ Overrides s .overrideSs .ss ∧
    Overrides s .overrideDs .ds ∧ Repeats s .rep .repe ∧ Repeats s .repne .repne ∧
    (s.pfx.lock = false → exec .lockPrefix s = .next { s with pfx := { s.pfx with lock := true } }) ∧
    (s.pfx.lock = true → exec .lockPrefix s = .refused .duplicatePrefix) ∧ s.lockOutput = lockOn s

/-- R341 to R346, which the spec supplies from general knowledge; the flags the rules call undefined are anything.
-/
def Obligations.DecimalCorrections : Prop :=
  ∀ s : State,
    let al := (s.reg8 .al).toNat; let ah := (s.reg8 .ah).toNat
    let low := lowCorrection s; let high := highCorrection s
    let six := if low then 6 else 0; let sixty := if high then 0x60 else 0;
    Corrects s .daa ((al + six + sixty) % 256) ah (fun v g => g.af = low ∧ g.cf = high ∧ ResultFlags s v g) ∧
    Corrects s .das ((al + 512 - six - sixty) % 256) ah (fun v g => g.af = low ∧ g.cf = high ∧ ResultFlags s v g) ∧
    Corrects s .aaa ((al + six) % 16) ((ah + low.toNat) % 256) (fun _ g => g.af = low ∧ g.cf = low) ∧
    Corrects s .aas ((al + 16 - six) % 16) ((ah + 256 - low.toNat) % 256) (fun _ g => g.af = low ∧ g.cf = low) ∧
    Corrects s .aam (al % 10) (al / 10) (fun v g => ResultFlags s v g) ∧
    Corrects s .aad ((ah * 10 + al) % 256) 0 (fun v g => ResultFlags s v g)

/-- R92 and R412: either the old or the new byte after a store into the next QUEUE_LEN bytes, the new one everywhere
else. The instruction fetch cycles are those of R382, in the widths of R75. How the queue is held, and that its
bytes are fetched when an instruction is taken, is the model's (log 14); the record `fetches` is log 10. -/
def Obligations.CodeFetch : Prop :=
  ∀ s : State,
    (∀ k, s.fetchByte k = s.memoryByte (s.codeAddr k) ∨
      (k < s.ahead ∧ ∃ c ∈ s.queue, c.1 = (s.codeAddr k).toNat ∧ c.2 = s.fetchByte k)) ∧
    (s.queue = [] → s.fetchBytes = codeBytes s) ∧
    (∀ a v, (∀ k < s.params.queueLen, a ≠ physAddr s.cs (s.ip + BitVec.ofNat 16 k)) → (s.writePhys a v).queue = s.queue) ∧
    (∀ k < s.params.queueLen, ∀ v, ∀ a, a = physAddr s.cs (s.ip + BitVec.ofNat 16 k) → s.isMemory a = true →
      (s.writePhys a v).queue = s.queue ++ [(a.toNat, s.memoryByte a)]) ∧
    (∀ i t rel off seg m rm, i ∈ [Instr.jmpShort rel, .jmpNear off, .jmpRm16 rm, .jmpFar off seg, .jmpMem m,
        .callNear off, .callRm16 rm, .callFar off seg, .callMem m, .retNear, .retNearN off, .retFar, .retFarN off,
        .int3, .intN rel, .iret] → exec i s = .next t → t.queue = [] ∧ t.ahead = 0) ∧
    (∀ i u, s.fetch = .ok (i, u) → s.ahead ≤ s.params.queueLen →
      ∃ n fs, n ≤ 6 ∧ u.ip = s.ip + BitVec.ofNat 16 n ∧ u.fetches = fs ++ s.fetches ∧ u.bus = s.bus ∧
        u.ahead ≤ s.params.queueLen ∧ (∀ c ∈ fs, Fetches s c) ∧
        ∀ k, s.ahead ≤ k → k < n → ∃ c ∈ fs, s.codeAddr k ∈ fetched c)

/-- The table of R55; nothing is claimed of the general registers, whose zero is the model's choice (log 1). The
parameters are at the defaults of R7 (log 5, 6, 14). -/
def Obligations.ResetState : Prop :=
  State.reset.flags =
      { cf := false, pf := false, af := false, zf := false, sf := false, tf := false, ifl := false, df := false,
        of := false } ∧
    State.reset.ip = 0x0000 ∧ State.reset.cs = 0xFFFF ∧ State.reset.ds = 0 ∧ State.reset.es = 0 ∧ State.reset.ss = 0 ∧
    (physAddr State.reset.cs State.reset.ip).toNat = 0xFFFF0 ∧ State.reset.queue = [] ∧ State.reset.ahead = 0 ∧
    State.reset.halted = false ∧
    State.reset.pins.nmiPending = false ∧ State.reset.pfx = { seg := none, rep := none, lock := false } ∧
    State.reset.params = { configuration := .maximum, queueLen := 6, pfEven := true }

/-- R400 with the table of R55, and A24 for a reset inside an instruction or an interrupt sequence; the eight
general registers, and which of the bus cycles were made, are free values (log 13). Two prefixes and a request owed
do not refuse an element that CLR cuts short (R304 refuses the interrupt alone). -/
def Obligations.ResetEvent : Prop :=
  ∀ s : State,
    (s.pins.clr = true → ∃ t, step s = .next t ∧ ResetFrom s t ∧ t.mem = s.mem ∧ t.bus = s.bus ∧
      t.fetches = s.fetches) ∧
    (∀ u cs fs, s.pins.clr = false → s.pins.clrInside = true → run s = .next u → u.bus = cs ++ s.bus → u.fetches = fs ++ s.fetches →
      ∃ t made madeF, step s = .next t ∧ ResetFrom u t ∧ List.Sublist made cs.reverse ∧
        (∀ c ∈ made, ∀ a ∈ c.addresses, s.kindAt a ≠ .absent) ∧ t.bus = made.reverse ++ s.bus ∧
        t.mem = made.foldl (Stores s) s.mem ∧ List.Sublist madeF fs.reverse ∧ t.fetches = madeF.reverse ++ s.fetches) ∧
    ∀ i t, s.pins.clrInside = true → s.halted = false → s.inProgress = some i → isString i = true →
      exec i { s with inProgress := none } = .next t → ∃ u, run s = .next u

/-- The invariant holds at reset. -/
def Obligations.InvReset : Prop :=
  State.reset.Inv

/-- The invariant is kept by every step of every instruction, interrupt, window and reset. The form of the queue, of
an instruction in progress and of the notes for the boundary is the model's (log 8, 14, 16, 20). -/
def Obligations.InvStep : Prop :=
  ∀ s t : State, s.Inv → step s = .next t → t.Inv

end
end

