-- ==== Sys2Proof/Laws/Memory.lean ====
section
/-!
SUPPORT. The laws of memory: a read after a write, the canonical form, physical addresses, and the halves of a word.
-/
namespace Sys2Proof.Machine

theorem Memory.wfFrom_mono {lo lo' : Nat} {m : Memory} (h : Memory.wfFrom lo m = true) (hl : lo' ≤ lo) :
    Memory.wfFrom lo' m = true := by
  cases m with
  | nil => rfl
  | cons c rest =>
    obtain ⟨k, v⟩ := c
    simp only [Memory.wfFrom, Bool.and_eq_true, decide_eq_true_eq] at h ⊢
    exact ⟨⟨⟨hl.trans h.1.1.1, h.1.1.2⟩, h.1.2⟩, h.2⟩

/-- Below the first address of a canonical memory every byte is the unlisted one. -/
theorem Memory.read_below {lo a : Nat} {m : Memory} (h : Memory.wfFrom lo m = true) (ha : a < lo) :
    m.read a = Config.unlistedByte := by
  induction m generalizing lo with
  | nil => rfl
  | cons c rest ih =>
    obtain ⟨k, v⟩ := c
    simp only [Memory.wfFrom, Bool.and_eq_true, decide_eq_true_eq] at h
    have hk : k ≠ a := by omega
    simp only [Memory.read, hk, if_false]
    exact ih h.2 (by omega)

theorem Memory.read_write_same_from {lo : Nat} {m : Memory} (h : Memory.wfFrom lo m = true) (a : Nat) (v : Byte) :
    (m.write a v).read a = v := by
  induction m generalizing lo with
  | nil =>
    by_cases hv : v = Config.unlistedByte <;> simp [Memory.write, Memory.read, hv]
  | cons c rest ih =>
    obtain ⟨k, w⟩ := c
    simp only [Memory.wfFrom, Bool.and_eq_true, decide_eq_true_eq] at h
    simp only [Memory.write]
    by_cases h1 : a < k
    · by_cases hv : v = Config.unlistedByte
      · have : k ≠ a := by omega
        simp only [h1, hv, if_true, Memory.read, this, if_false]
        exact Memory.read_below h.2 (by omega)
      · simp [h1, hv, Memory.read]
    · by_cases h2 : a = k
      · subst h2
        by_cases hv : v = Config.unlistedByte
        · simp only [hv, if_true, Nat.lt_irrefl, if_false]
          exact Memory.read_below h.2 (by omega)
        · simp [hv, Memory.read]
      · have : k ≠ a := fun e => h2 e.symm
        simp only [h1, h2, if_false, Memory.read, this]
        exact ih h.2

/-- A read after a write to the same place gives the value written. -/
theorem Memory.read_write_same {m : Memory} (h : m.wf = true) (a : Nat) (v : Byte) : (m.write a v).read a = v :=
  Memory.read_write_same_from h a v

/-- A write leaves every other place alone. -/
theorem Memory.read_write_other (m : Memory) {a b : Nat} (v : Byte) (h : b ≠ a) : (m.write a v).read b = m.read b := by
  induction m with
  | nil => by_cases hv : v = Config.unlistedByte <;> simp [Memory.write, Memory.read, hv, Ne.symm h]
  | cons c rest ih =>
    obtain ⟨k, w⟩ := c
    simp only [Memory.write]
    by_cases h1 : a < k
    · by_cases hv : v = Config.unlistedByte <;> simp [h1, hv, Memory.read, Ne.symm h]
    · by_cases h2 : a = k
      · subst h2
        by_cases hv : v = Config.unlistedByte <;> simp [hv, Memory.read, Ne.symm h]
      · simp only [h1, h2, if_false, Memory.read, ih]

theorem Memory.wfFrom_write {lo : Nat} {m : Memory} (h : Memory.wfFrom lo m = true) {a : Nat} (v : Byte) (hlo : lo ≤ a)
    (ha : a < 2 ^ 20) : Memory.wfFrom lo (m.write a v) = true := by
  induction m generalizing lo with
  | nil =>
    by_cases hv : v = Config.unlistedByte <;> simp [Memory.write, Memory.wfFrom, hv, hlo]
    exact ha
  | cons c rest ih =>
    obtain ⟨k, w⟩ := c
    have h0 := h
    simp only [Memory.wfFrom, Bool.and_eq_true, decide_eq_true_eq] at h
    simp only [Memory.write]
    by_cases h1 : a < k
    · by_cases hv : v = Config.unlistedByte
      · simp only [h1, hv, if_true]; exact h0
      · simp only [h1, hv, if_true, if_false, Memory.wfFrom, Bool.and_eq_true, decide_eq_true_eq]
        exact ⟨⟨⟨hlo, ha⟩, hv⟩, ⟨⟨⟨by omega, h.1.1.2⟩, h.1.2⟩, h.2⟩⟩
    · by_cases h2 : a = k
      · subst h2
        by_cases hv : v = Config.unlistedByte
        · simp only [hv, if_true, Nat.lt_irrefl, if_false]
          exact Memory.wfFrom_mono h.2 (by omega)
        · simp only [hv, if_true, Nat.lt_irrefl, if_false, Memory.wfFrom, Bool.and_eq_true, decide_eq_true_eq]
          exact ⟨⟨⟨hlo, ha⟩, hv⟩, h.2⟩
      · simp only [h1, h2, if_false, Memory.wfFrom, Bool.and_eq_true, decide_eq_true_eq]
        exact ⟨h.1, ih h.2 (by omega)⟩

/-- A write inside the address space keeps the canonical form. -/
theorem Memory.wf_write {m : Memory} (h : m.wf = true) {a : Nat} (v : Byte) (ha : a < 2 ^ 20) :
    (m.write a v).wf = true :=
  Memory.wfFrom_write h v (Nat.zero_le _) ha

/-- The memory of the reset state is in canonical form. -/
theorem Memory.wf_reset : State.reset.mem.wf = true := rfl

/-- The physical address as a number (R63). -/
theorem physAddr_toNat (seg off : Word) : (physAddr seg off).toNat = (seg.toNat * 16 + off.toNat) % 2 ^ 20 := by
  simp only [physAddr, BitVec.toNat_add, BitVec.toNat_shiftLeft, BitVec.toNat_setWidth, Nat.shiftLeft_eq]
  omega

/-- Two offsets of a segment have two addresses. -/
theorem physAddr_inj {seg x y : Word} (h : physAddr seg x = physAddr seg y) : x = y := by
  have h' := congrArg BitVec.toNat h
  simp only [physAddr_toNat] at h'
  apply BitVec.eq_of_toNat_eq
  have := x.isLt; have := y.isLt
  omega

/-- The address after a physical address, as a number. -/
theorem physAddr_succ_toNat (a : PhysAddr) : (a + 1).toNat = (a.toNat + 1) % 2 ^ 20 := BitVec.toNat_add a 1

/-- The address after offset FFFFh is no address of the segment. -/
theorem physAddr_top_ne (seg y : Word) : physAddr seg 0xFFFF + 1 ≠ physAddr seg y := by
  intro h
  have h' := congrArg BitVec.toNat h
  rw [physAddr_succ_toNat, physAddr_toNat, physAddr_toNat, show (0xFFFF : Word).toNat = 65535 from rfl] at h'
  have := y.isLt
  omega

/-- Where the high byte of a word can lie: at the next offset, or, at offset FFFFh, at the next address (R72). -/
theorem highAddr_cases (seg x : Word) :
    (x ≠ 0xFFFF ∧ highAddr seg x = physAddr seg (x + 1)) ∨ (x = 0xFFFF ∧
      (highAddr seg x = physAddr seg (x + 1) ∨ highAddr seg x = physAddr seg 0xFFFF + 1)) := by
  unfold highAddr
  by_cases h : x = 0xFFFF
  · subst h
    refine .inr ⟨rfl, ?_⟩
    rw [if_pos rfl]
    split
    · exact .inl rfl
    · exact .inr rfl
  · exact .inl ⟨h, if_neg h⟩

/-- The two bytes of a word have two addresses. -/
theorem highAddr_ne (seg off : Word) : highAddr seg off ≠ physAddr seg off := by
  have hs : off + 1 ≠ off := fun e => absurd (congrArg BitVec.toNat e) (by
    rw [BitVec.toNat_add, show (1 : Word).toNat = 1 from rfl]; omega)
  obtain ⟨_, e⟩ | ⟨_, e | e⟩ := highAddr_cases seg off <;> rw [e]
  · exact fun h => hs (physAddr_inj h)
  · exact fun h => hs (physAddr_inj h)
  · exact physAddr_top_ne _ _

/-- Through which segment the second word of a double word is read: the same one, or, past the end of the segment, perhaps
the one 64K further (R72). -/
theorem secondSegment_cases (seg x : Word) :
    secondSegment seg x = seg ∨ ((x = 0xFFFE ∨ x = 0xFFFF) ∧ secondSegment seg x = seg + 0x1000) := by
  unfold secondSegment
  split
  · next h =>
    split
    · exact .inl rfl
    · exact .inr ⟨h, rfl⟩
  · exact .inl rfl

/-- Before offset FFFEh a double word lies in one segment. -/
theorem secondSegment_inside {seg x : Word} (h : x.toNat < 0xFFFE) : secondSegment seg x = seg :=
  if_neg fun e => by rcases e with e | e <;> subst e <;> exact absurd h (by decide)

/-- Past the end of the segment the other place is the next physical address: that of the first word, plus 2. -/
theorem physAddr_second (seg : Word) : physAddr (seg + 0x1000) (0xFFFE + 2) = physAddr seg 0xFFFE + 2 := by
  apply BitVec.eq_of_toNat_eq
  rw [BitVec.toNat_add, physAddr_toNat, physAddr_toNat, BitVec.toNat_add]
  simp only [show ((0xFFFE : Word) + 2).toNat = 0 from rfl, show (0xFFFE : Word).toNat = 65534 from rfl,
    show (0x1000 : Word).toNat = 4096 from rfl, show (2 : PhysAddr).toNat = 2 from rfl]
  omega

/-- Two words of a segment at offsets neither equal nor next to each other share no byte. -/
theorem words_disjoint (seg : Word) {x y : Word} (h1 : x ≠ y) (h2 : y ≠ x + 1) (h3 : x ≠ y + 1) :
    physAddr seg x ≠ physAddr seg y ∧ physAddr seg x ≠ highAddr seg y ∧ highAddr seg x ≠ physAddr seg y ∧
      highAddr seg x ≠ highAddr seg y := by
  have hp : ∀ a b : Word, a ≠ b → physAddr seg a ≠ physAddr seg b := fun a b h e => h (physAddr_inj e)
  have key : ∀ a b : Word, b ≠ a + 1 → highAddr seg a ≠ physAddr seg b := by
    intro a b hab
    obtain ⟨_, e⟩ | ⟨_, e | e⟩ := highAddr_cases seg a <;> rw [e]
    · exact hp _ _ (fun e => hab e.symm)
    · exact hp _ _ (fun e => hab e.symm)
    · exact physAddr_top_ne _ _
  have hs : x + 1 ≠ y + 1 := fun e => h1 (add_right_cancel e)
  refine ⟨hp _ _ h1, (key y x h3).symm, key x y h2, ?_⟩
  obtain ⟨hx, e⟩ | ⟨hx, e | e⟩ := highAddr_cases seg x <;> obtain ⟨hy, e'⟩ | ⟨hy, e' | e'⟩ := highAddr_cases seg y <;>
    rw [e, e']
  · exact hp _ _ hs
  · exact hp _ _ hs
  · exact (physAddr_top_ne _ _).symm
  · exact hp _ _ hs
  · exact hp _ _ hs
  · exact absurd (hx.trans hy.symm) h1
  · exact physAddr_top_ne _ _
  · exact absurd (hx.trans hy.symm) h1
  · exact absurd (hx.trans hy.symm) h1

@[simp] theorem lowByte_wordOf (lo hi : Byte) : lowByte (wordOf lo hi) = lo := by
  apply BitVec.eq_of_getLsbD_eq; intro i hi'
  rw [lowByte, wordOf, BitVec.getLsbD_setWidth, BitVec.getLsbD_append]
  simp [hi']

@[simp] theorem highByte_wordOf (lo hi : Byte) : highByte (wordOf lo hi) = hi := by
  apply BitVec.eq_of_getLsbD_eq; intro i hi'
  rw [highByte, wordOf, BitVec.getLsbD_extractLsb', BitVec.getLsbD_append]
  simp [hi']

@[simp] theorem wordOf_halves (w : Word) : wordOf (lowByte w) (highByte w) = w := by
  apply BitVec.eq_of_getLsbD_eq; intro i hi'
  simp only [wordOf, lowByte, highByte, BitVec.getLsbD_append, BitVec.getLsbD_setWidth, BitVec.getLsbD_extractLsb']
  by_cases h : i < 8
  · simp [h]
  · have : 8 + (i - 8) = i := by omega
    simp [h, this]; omega

end Sys2Proof.Machine
end

