-- ==== Sys2Proof/Laws/State.lean ====
section
/-!
SUPPORT. What each update of the state leaves in each field, in the platform's map and parameters, in the LOCK output and in memory: one lemma
per field per update.
-/
namespace Sys2Proof.Machine

@[simp] theorem State.setReg16_regs (s : State) (r : Reg16) (v : Word) : (s.setReg16 r v).regs = s.regs.set16 r v := rfl
@[simp] theorem State.setReg16_flags (s : State) (r : Reg16) (v : Word) : (s.setReg16 r v).flags = s.flags := rfl
@[simp] theorem State.setReg16_es (s : State) (r : Reg16) (v : Word) : (s.setReg16 r v).es = s.es := rfl
@[simp] theorem State.setReg16_cs (s : State) (r : Reg16) (v : Word) : (s.setReg16 r v).cs = s.cs := rfl
@[simp] theorem State.setReg16_ss (s : State) (r : Reg16) (v : Word) : (s.setReg16 r v).ss = s.ss := rfl
@[simp] theorem State.setReg16_ds (s : State) (r : Reg16) (v : Word) : (s.setReg16 r v).ds = s.ds := rfl
@[simp] theorem State.setReg16_ip (s : State) (r : Reg16) (v : Word) : (s.setReg16 r v).ip = s.ip := rfl
@[simp] theorem State.setReg16_mem (s : State) (r : Reg16) (v : Word) : (s.setReg16 r v).mem = s.mem := rfl
@[simp] theorem State.setReg16_halted (s : State) (r : Reg16) (v : Word) : (s.setReg16 r v).halted = s.halted := rfl
@[simp] theorem State.setReg16_pins (s : State) (r : Reg16) (v : Word) : (s.setReg16 r v).pins = s.pins := rfl
@[simp] theorem State.setReg16_pfx (s : State) (r : Reg16) (v : Word) : (s.setReg16 r v).pfx = s.pfx := rfl
@[simp] theorem State.setReg16_inProgress (s : State) (r : Reg16) (v : Word) : (s.setReg16 r v).inProgress = s.inProgress := rfl
@[simp] theorem State.setReg16_start (s : State) (r : Reg16) (v : Word) : (s.setReg16 r v).start = s.start := rfl
@[simp] theorem State.setReg16_shadow (s : State) (r : Reg16) (v : Word) : (s.setReg16 r v).shadow = s.shadow := rfl
@[simp] theorem State.setReg16_raised (s : State) (r : Reg16) (v : Word) : (s.setReg16 r v).raised = s.raised := rfl
@[simp] theorem State.setReg16_queue (s : State) (r : Reg16) (v : Word) : (s.setReg16 r v).queue = s.queue := rfl
@[simp] theorem State.setReg16_platform (s : State) (r : Reg16) (v : Word) : (s.setReg16 r v).platform = s.platform := rfl
@[simp] theorem State.setReg16_params (s : State) (r : Reg16) (v : Word) : (s.setReg16 r v).params = s.params := rfl
@[simp] theorem State.setReg16_bus (s : State) (r : Reg16) (v : Word) : (s.setReg16 r v).bus = s.bus := rfl
@[simp] theorem State.setReg16_fetches (s : State) (r : Reg16) (v : Word) : (s.setReg16 r v).fetches = s.fetches := rfl
@[simp] theorem State.setReg16_ahead (s : State) (r : Reg16) (v : Word) : (s.setReg16 r v).ahead = s.ahead := rfl
@[simp] theorem State.setReg16_draws (s : State) (r : Reg16) (v : Word) : (s.setReg16 r v).draws = s.draws := rfl
@[simp] theorem State.setReg16_isMemory (s : State) (r : Reg16) (v : Word) (x : PhysAddr) : (s.setReg16 r v).isMemory x = s.isMemory x := rfl
@[simp] theorem State.setReg16_lockOutput (s : State) (r : Reg16) (v : Word) : (s.setReg16 r v).lockOutput = s.lockOutput := rfl
@[simp] theorem State.setReg16_memoryByte (s : State) (r : Reg16) (v : Word) (x : PhysAddr) : (s.setReg16 r v).memoryByte x = s.memoryByte x := rfl

@[simp] theorem State.setReg8_regs (s : State) (r : Reg8) (v : Byte) : (s.setReg8 r v).regs = s.regs.set8 r v := rfl
@[simp] theorem State.setReg8_flags (s : State) (r : Reg8) (v : Byte) : (s.setReg8 r v).flags = s.flags := rfl
@[simp] theorem State.setReg8_es (s : State) (r : Reg8) (v : Byte) : (s.setReg8 r v).es = s.es := rfl
@[simp] theorem State.setReg8_cs (s : State) (r : Reg8) (v : Byte) : (s.setReg8 r v).cs = s.cs := rfl
@[simp] theorem State.setReg8_ss (s : State) (r : Reg8) (v : Byte) : (s.setReg8 r v).ss = s.ss := rfl
@[simp] theorem State.setReg8_ds (s : State) (r : Reg8) (v : Byte) : (s.setReg8 r v).ds = s.ds := rfl
@[simp] theorem State.setReg8_ip (s : State) (r : Reg8) (v : Byte) : (s.setReg8 r v).ip = s.ip := rfl
@[simp] theorem State.setReg8_mem (s : State) (r : Reg8) (v : Byte) : (s.setReg8 r v).mem = s.mem := rfl
@[simp] theorem State.setReg8_halted (s : State) (r : Reg8) (v : Byte) : (s.setReg8 r v).halted = s.halted := rfl
@[simp] theorem State.setReg8_pins (s : State) (r : Reg8) (v : Byte) : (s.setReg8 r v).pins = s.pins := rfl
@[simp] theorem State.setReg8_pfx (s : State) (r : Reg8) (v : Byte) : (s.setReg8 r v).pfx = s.pfx := rfl
@[simp] theorem State.setReg8_inProgress (s : State) (r : Reg8) (v : Byte) : (s.setReg8 r v).inProgress = s.inProgress := rfl
@[simp] theorem State.setReg8_start (s : State) (r : Reg8) (v : Byte) : (s.setReg8 r v).start = s.start := rfl
@[simp] theorem State.setReg8_shadow (s : State) (r : Reg8) (v : Byte) : (s.setReg8 r v).shadow = s.shadow := rfl
@[simp] theorem State.setReg8_raised (s : State) (r : Reg8) (v : Byte) : (s.setReg8 r v).raised = s.raised := rfl
@[simp] theorem State.setReg8_queue (s : State) (r : Reg8) (v : Byte) : (s.setReg8 r v).queue = s.queue := rfl
@[simp] theorem State.setReg8_platform (s : State) (r : Reg8) (v : Byte) : (s.setReg8 r v).platform = s.platform := rfl
@[simp] theorem State.setReg8_params (s : State) (r : Reg8) (v : Byte) : (s.setReg8 r v).params = s.params := rfl
@[simp] theorem State.setReg8_bus (s : State) (r : Reg8) (v : Byte) : (s.setReg8 r v).bus = s.bus := rfl
@[simp] theorem State.setReg8_fetches (s : State) (r : Reg8) (v : Byte) : (s.setReg8 r v).fetches = s.fetches := rfl
@[simp] theorem State.setReg8_ahead (s : State) (r : Reg8) (v : Byte) : (s.setReg8 r v).ahead = s.ahead := rfl
@[simp] theorem State.setReg8_draws (s : State) (r : Reg8) (v : Byte) : (s.setReg8 r v).draws = s.draws := rfl
@[simp] theorem State.setReg8_isMemory (s : State) (r : Reg8) (v : Byte) (x : PhysAddr) : (s.setReg8 r v).isMemory x = s.isMemory x := rfl
@[simp] theorem State.setReg8_lockOutput (s : State) (r : Reg8) (v : Byte) : (s.setReg8 r v).lockOutput = s.lockOutput := rfl
@[simp] theorem State.setReg8_memoryByte (s : State) (r : Reg8) (v : Byte) (x : PhysAddr) : (s.setReg8 r v).memoryByte x = s.memoryByte x := rfl

@[simp] theorem State.setFlags_regs (s : State) (f : Flags) : (s.setFlags f).regs = s.regs := rfl
@[simp] theorem State.setFlags_flags (s : State) (f : Flags) : (s.setFlags f).flags = f := rfl
@[simp] theorem State.setFlags_es (s : State) (f : Flags) : (s.setFlags f).es = s.es := rfl
@[simp] theorem State.setFlags_cs (s : State) (f : Flags) : (s.setFlags f).cs = s.cs := rfl
@[simp] theorem State.setFlags_ss (s : State) (f : Flags) : (s.setFlags f).ss = s.ss := rfl
@[simp] theorem State.setFlags_ds (s : State) (f : Flags) : (s.setFlags f).ds = s.ds := rfl
@[simp] theorem State.setFlags_ip (s : State) (f : Flags) : (s.setFlags f).ip = s.ip := rfl
@[simp] theorem State.setFlags_mem (s : State) (f : Flags) : (s.setFlags f).mem = s.mem := rfl
@[simp] theorem State.setFlags_halted (s : State) (f : Flags) : (s.setFlags f).halted = s.halted := rfl
@[simp] theorem State.setFlags_pins (s : State) (f : Flags) : (s.setFlags f).pins = s.pins := rfl
@[simp] theorem State.setFlags_pfx (s : State) (f : Flags) : (s.setFlags f).pfx = s.pfx := rfl
@[simp] theorem State.setFlags_inProgress (s : State) (f : Flags) : (s.setFlags f).inProgress = s.inProgress := rfl
@[simp] theorem State.setFlags_start (s : State) (f : Flags) : (s.setFlags f).start = s.start := rfl
@[simp] theorem State.setFlags_shadow (s : State) (f : Flags) : (s.setFlags f).shadow = s.shadow := rfl
@[simp] theorem State.setFlags_raised (s : State) (f : Flags) : (s.setFlags f).raised = s.raised := rfl
@[simp] theorem State.setFlags_queue (s : State) (f : Flags) : (s.setFlags f).queue = s.queue := rfl
@[simp] theorem State.setFlags_platform (s : State) (f : Flags) : (s.setFlags f).platform = s.platform := rfl
@[simp] theorem State.setFlags_params (s : State) (f : Flags) : (s.setFlags f).params = s.params := rfl
@[simp] theorem State.setFlags_bus (s : State) (f : Flags) : (s.setFlags f).bus = s.bus := rfl
@[simp] theorem State.setFlags_fetches (s : State) (f : Flags) : (s.setFlags f).fetches = s.fetches := rfl
@[simp] theorem State.setFlags_ahead (s : State) (f : Flags) : (s.setFlags f).ahead = s.ahead := rfl
@[simp] theorem State.setFlags_draws (s : State) (f : Flags) : (s.setFlags f).draws = s.draws := rfl
@[simp] theorem State.setFlags_isMemory (s : State) (f : Flags) (x : PhysAddr) : (s.setFlags f).isMemory x = s.isMemory x := rfl
@[simp] theorem State.setFlags_lockOutput (s : State) (f : Flags) : (s.setFlags f).lockOutput = s.lockOutput := rfl
@[simp] theorem State.setFlags_memoryByte (s : State) (f : Flags) (x : PhysAddr) : (s.setFlags f).memoryByte x = s.memoryByte x := rfl

@[simp] theorem State.setSreg_regs (s : State) (r : SReg) (v : Word) : (s.setSreg r v).regs = s.regs := by cases r <;> rfl
@[simp] theorem State.setSreg_flags (s : State) (r : SReg) (v : Word) : (s.setSreg r v).flags = s.flags := by cases r <;> rfl
@[simp] theorem State.setSreg_ip (s : State) (r : SReg) (v : Word) : (s.setSreg r v).ip = s.ip := by cases r <;> rfl
@[simp] theorem State.setSreg_mem (s : State) (r : SReg) (v : Word) : (s.setSreg r v).mem = s.mem := by cases r <;> rfl
@[simp] theorem State.setSreg_halted (s : State) (r : SReg) (v : Word) : (s.setSreg r v).halted = s.halted := by cases r <;> rfl
@[simp] theorem State.setSreg_pins (s : State) (r : SReg) (v : Word) : (s.setSreg r v).pins = s.pins := by cases r <;> rfl
@[simp] theorem State.setSreg_pfx (s : State) (r : SReg) (v : Word) : (s.setSreg r v).pfx = s.pfx := by cases r <;> rfl
@[simp] theorem State.setSreg_inProgress (s : State) (r : SReg) (v : Word) : (s.setSreg r v).inProgress = s.inProgress := by cases r <;> rfl
@[simp] theorem State.setSreg_start (s : State) (r : SReg) (v : Word) : (s.setSreg r v).start = s.start := by cases r <;> rfl
@[simp] theorem State.setSreg_shadow (s : State) (r : SReg) (v : Word) : (s.setSreg r v).shadow = s.shadow := by cases r <;> rfl
@[simp] theorem State.setSreg_raised (s : State) (r : SReg) (v : Word) : (s.setSreg r v).raised = s.raised := by cases r <;> rfl
@[simp] theorem State.setSreg_queue (s : State) (r : SReg) (v : Word) : (s.setSreg r v).queue = s.queue := by cases r <;> rfl
@[simp] theorem State.setSreg_platform (s : State) (r : SReg) (v : Word) : (s.setSreg r v).platform = s.platform := by cases r <;> rfl
@[simp] theorem State.setSreg_params (s : State) (r : SReg) (v : Word) : (s.setSreg r v).params = s.params := by cases r <;> rfl
@[simp] theorem State.setSreg_bus (s : State) (r : SReg) (v : Word) : (s.setSreg r v).bus = s.bus := by cases r <;> rfl
@[simp] theorem State.setSreg_fetches (s : State) (r : SReg) (v : Word) : (s.setSreg r v).fetches = s.fetches := by cases r <;> rfl
@[simp] theorem State.setSreg_ahead (s : State) (r : SReg) (v : Word) : (s.setSreg r v).ahead = s.ahead := by cases r <;> rfl
@[simp] theorem State.setSreg_draws (s : State) (r : SReg) (v : Word) : (s.setSreg r v).draws = s.draws := by cases r <;> rfl
@[simp] theorem State.setSreg_isMemory (s : State) (r : SReg) (v : Word) (x : PhysAddr) : (s.setSreg r v).isMemory x = s.isMemory x := by cases r <;> rfl
@[simp] theorem State.setSreg_lockOutput (s : State) (r : SReg) (v : Word) : (s.setSreg r v).lockOutput = s.lockOutput := by cases r <;> rfl
@[simp] theorem State.setSreg_memoryByte (s : State) (r : SReg) (v : Word) (x : PhysAddr) : (s.setSreg r v).memoryByte x = s.memoryByte x := by cases r <;> rfl

@[simp] theorem State.loadSreg_regs (s : State) (r : SReg) (v : Word) : (s.loadSreg r v).regs = s.regs := by cases r <;> rfl
@[simp] theorem State.loadSreg_flags (s : State) (r : SReg) (v : Word) : (s.loadSreg r v).flags = s.flags := by cases r <;> rfl
@[simp] theorem State.loadSreg_es (s : State) (r : SReg) (v : Word) : (s.loadSreg r v).es = (s.setSreg r v).es := by cases r <;> rfl
@[simp] theorem State.loadSreg_cs (s : State) (r : SReg) (v : Word) : (s.loadSreg r v).cs = (s.setSreg r v).cs := by cases r <;> rfl
@[simp] theorem State.loadSreg_ss (s : State) (r : SReg) (v : Word) : (s.loadSreg r v).ss = (s.setSreg r v).ss := by cases r <;> rfl
@[simp] theorem State.loadSreg_ds (s : State) (r : SReg) (v : Word) : (s.loadSreg r v).ds = (s.setSreg r v).ds := by cases r <;> rfl
@[simp] theorem State.loadSreg_ip (s : State) (r : SReg) (v : Word) : (s.loadSreg r v).ip = s.ip := by cases r <;> rfl
@[simp] theorem State.loadSreg_mem (s : State) (r : SReg) (v : Word) : (s.loadSreg r v).mem = s.mem := by cases r <;> rfl
@[simp] theorem State.loadSreg_halted (s : State) (r : SReg) (v : Word) : (s.loadSreg r v).halted = s.halted := by cases r <;> rfl
@[simp] theorem State.loadSreg_pins (s : State) (r : SReg) (v : Word) : (s.loadSreg r v).pins = s.pins := by cases r <;> rfl
@[simp] theorem State.loadSreg_pfx (s : State) (r : SReg) (v : Word) : (s.loadSreg r v).pfx = s.pfx := by cases r <;> rfl
@[simp] theorem State.loadSreg_inProgress (s : State) (r : SReg) (v : Word) : (s.loadSreg r v).inProgress = s.inProgress := by cases r <;> rfl
@[simp] theorem State.loadSreg_start (s : State) (r : SReg) (v : Word) : (s.loadSreg r v).start = s.start := by cases r <;> rfl
@[simp] theorem State.loadSreg_shadow (s : State) (r : SReg) (v : Word) : (s.loadSreg r v).shadow = true := by cases r <;> rfl
@[simp] theorem State.loadSreg_raised (s : State) (r : SReg) (v : Word) : (s.loadSreg r v).raised = s.raised := by cases r <;> rfl
@[simp] theorem State.loadSreg_queue (s : State) (r : SReg) (v : Word) : (s.loadSreg r v).queue = s.queue := by cases r <;> rfl
@[simp] theorem State.loadSreg_platform (s : State) (r : SReg) (v : Word) : (s.loadSreg r v).platform = s.platform := by cases r <;> rfl
@[simp] theorem State.loadSreg_params (s : State) (r : SReg) (v : Word) : (s.loadSreg r v).params = s.params := by cases r <;> rfl
@[simp] theorem State.loadSreg_bus (s : State) (r : SReg) (v : Word) : (s.loadSreg r v).bus = s.bus := by cases r <;> rfl
@[simp] theorem State.loadSreg_fetches (s : State) (r : SReg) (v : Word) : (s.loadSreg r v).fetches = s.fetches := by cases r <;> rfl
@[simp] theorem State.loadSreg_ahead (s : State) (r : SReg) (v : Word) : (s.loadSreg r v).ahead = s.ahead := by cases r <;> rfl
@[simp] theorem State.loadSreg_draws (s : State) (r : SReg) (v : Word) : (s.loadSreg r v).draws = s.draws := by cases r <;> rfl
@[simp] theorem State.loadSreg_isMemory (s : State) (r : SReg) (v : Word) (x : PhysAddr) : (s.loadSreg r v).isMemory x = s.isMemory x := by cases r <;> rfl
@[simp] theorem State.loadSreg_lockOutput (s : State) (r : SReg) (v : Word) : (s.loadSreg r v).lockOutput = s.lockOutput := by cases r <;> rfl
@[simp] theorem State.loadSreg_memoryByte (s : State) (r : SReg) (v : Word) (x : PhysAddr) : (s.loadSreg r v).memoryByte x = s.memoryByte x := by cases r <;> rfl

@[simp] theorem State.drawn_regs (s : State) (n : Nat) : (s.drawn n).regs = s.regs := rfl
@[simp] theorem State.drawn_flags (s : State) (n : Nat) : (s.drawn n).flags = s.flags := rfl
@[simp] theorem State.drawn_es (s : State) (n : Nat) : (s.drawn n).es = s.es := rfl
@[simp] theorem State.drawn_cs (s : State) (n : Nat) : (s.drawn n).cs = s.cs := rfl
@[simp] theorem State.drawn_ss (s : State) (n : Nat) : (s.drawn n).ss = s.ss := rfl
@[simp] theorem State.drawn_ds (s : State) (n : Nat) : (s.drawn n).ds = s.ds := rfl
@[simp] theorem State.drawn_ip (s : State) (n : Nat) : (s.drawn n).ip = s.ip := rfl
@[simp] theorem State.drawn_mem (s : State) (n : Nat) : (s.drawn n).mem = s.mem := rfl
@[simp] theorem State.drawn_halted (s : State) (n : Nat) : (s.drawn n).halted = s.halted := rfl
@[simp] theorem State.drawn_pins (s : State) (n : Nat) : (s.drawn n).pins = s.pins := rfl
@[simp] theorem State.drawn_pfx (s : State) (n : Nat) : (s.drawn n).pfx = s.pfx := rfl
@[simp] theorem State.drawn_inProgress (s : State) (n : Nat) : (s.drawn n).inProgress = s.inProgress := rfl
@[simp] theorem State.drawn_start (s : State) (n : Nat) : (s.drawn n).start = s.start := rfl
@[simp] theorem State.drawn_shadow (s : State) (n : Nat) : (s.drawn n).shadow = s.shadow := rfl
@[simp] theorem State.drawn_raised (s : State) (n : Nat) : (s.drawn n).raised = s.raised := rfl
@[simp] theorem State.drawn_queue (s : State) (n : Nat) : (s.drawn n).queue = s.queue := rfl
@[simp] theorem State.drawn_platform (s : State) (n : Nat) : (s.drawn n).platform = s.platform := rfl
@[simp] theorem State.drawn_params (s : State) (n : Nat) : (s.drawn n).params = s.params := rfl
@[simp] theorem State.drawn_bus (s : State) (n : Nat) : (s.drawn n).bus = s.bus := rfl
@[simp] theorem State.drawn_fetches (s : State) (n : Nat) : (s.drawn n).fetches = s.fetches := rfl
@[simp] theorem State.drawn_ahead (s : State) (n : Nat) : (s.drawn n).ahead = s.ahead := rfl
@[simp] theorem State.drawn_draws (s : State) (n : Nat) : (s.drawn n).draws = s.draws + n := rfl
@[simp] theorem State.drawn_isMemory (s : State) (n : Nat) (x : PhysAddr) : (s.drawn n).isMemory x = s.isMemory x := rfl
@[simp] theorem State.drawn_lockOutput (s : State) (n : Nat) : (s.drawn n).lockOutput = s.lockOutput := rfl
@[simp] theorem State.drawn_memoryByte (s : State) (n : Nat) (x : PhysAddr) : (s.drawn n).memoryByte x = s.memoryByte x := rfl

@[simp] theorem State.onBus_regs (s : State) (cs : List BusCycle) : (s.onBus cs).regs = s.regs := rfl
@[simp] theorem State.onBus_flags (s : State) (cs : List BusCycle) : (s.onBus cs).flags = s.flags := rfl
@[simp] theorem State.onBus_es (s : State) (cs : List BusCycle) : (s.onBus cs).es = s.es := rfl
@[simp] theorem State.onBus_cs (s : State) (cs : List BusCycle) : (s.onBus cs).cs = s.cs := rfl
@[simp] theorem State.onBus_ss (s : State) (cs : List BusCycle) : (s.onBus cs).ss = s.ss := rfl
@[simp] theorem State.onBus_ds (s : State) (cs : List BusCycle) : (s.onBus cs).ds = s.ds := rfl
@[simp] theorem State.onBus_ip (s : State) (cs : List BusCycle) : (s.onBus cs).ip = s.ip := rfl
@[simp] theorem State.onBus_mem (s : State) (cs : List BusCycle) : (s.onBus cs).mem = s.mem := rfl
@[simp] theorem State.onBus_halted (s : State) (cs : List BusCycle) : (s.onBus cs).halted = s.halted := rfl
@[simp] theorem State.onBus_pins (s : State) (cs : List BusCycle) : (s.onBus cs).pins = s.pins := rfl
@[simp] theorem State.onBus_pfx (s : State) (cs : List BusCycle) : (s.onBus cs).pfx = s.pfx := rfl
@[simp] theorem State.onBus_inProgress (s : State) (cs : List BusCycle) : (s.onBus cs).inProgress = s.inProgress := rfl
@[simp] theorem State.onBus_start (s : State) (cs : List BusCycle) : (s.onBus cs).start = s.start := rfl
@[simp] theorem State.onBus_shadow (s : State) (cs : List BusCycle) : (s.onBus cs).shadow = s.shadow := rfl
@[simp] theorem State.onBus_raised (s : State) (cs : List BusCycle) : (s.onBus cs).raised = s.raised := rfl
@[simp] theorem State.onBus_queue (s : State) (cs : List BusCycle) : (s.onBus cs).queue = s.queue := rfl
@[simp] theorem State.onBus_platform (s : State) (cs : List BusCycle) : (s.onBus cs).platform = s.platform := rfl
@[simp] theorem State.onBus_params (s : State) (cs : List BusCycle) : (s.onBus cs).params = s.params := rfl
@[simp] theorem State.onBus_bus (s : State) (cs : List BusCycle) : (s.onBus cs).bus = cs ++ s.bus := rfl
@[simp] theorem State.onBus_fetches (s : State) (cs : List BusCycle) : (s.onBus cs).fetches = s.fetches := rfl
@[simp] theorem State.onBus_ahead (s : State) (cs : List BusCycle) : (s.onBus cs).ahead = s.ahead := rfl
@[simp] theorem State.onBus_draws (s : State) (cs : List BusCycle) : (s.onBus cs).draws = s.draws := rfl
@[simp] theorem State.onBus_isMemory (s : State) (cs : List BusCycle) (x : PhysAddr) : (s.onBus cs).isMemory x = s.isMemory x := rfl
@[simp] theorem State.onBus_lockOutput (s : State) (cs : List BusCycle) : (s.onBus cs).lockOutput = s.lockOutput := rfl
@[simp] theorem State.onBus_memoryByte (s : State) (cs : List BusCycle) (x : PhysAddr) : (s.onBus cs).memoryByte x = s.memoryByte x := rfl

@[simp] theorem State.noteReadByte_regs (s : State) (seg off : Word) : (s.noteReadByte seg off).regs = s.regs := rfl
@[simp] theorem State.noteReadByte_flags (s : State) (seg off : Word) : (s.noteReadByte seg off).flags = s.flags := rfl
@[simp] theorem State.noteReadByte_es (s : State) (seg off : Word) : (s.noteReadByte seg off).es = s.es := rfl
@[simp] theorem State.noteReadByte_cs (s : State) (seg off : Word) : (s.noteReadByte seg off).cs = s.cs := rfl
@[simp] theorem State.noteReadByte_ss (s : State) (seg off : Word) : (s.noteReadByte seg off).ss = s.ss := rfl
@[simp] theorem State.noteReadByte_ds (s : State) (seg off : Word) : (s.noteReadByte seg off).ds = s.ds := rfl
@[simp] theorem State.noteReadByte_ip (s : State) (seg off : Word) : (s.noteReadByte seg off).ip = s.ip := rfl
@[simp] theorem State.noteReadByte_mem (s : State) (seg off : Word) : (s.noteReadByte seg off).mem = s.mem := rfl
@[simp] theorem State.noteReadByte_halted (s : State) (seg off : Word) : (s.noteReadByte seg off).halted = s.halted := rfl
@[simp] theorem State.noteReadByte_pins (s : State) (seg off : Word) : (s.noteReadByte seg off).pins = s.pins := rfl
@[simp] theorem State.noteReadByte_pfx (s : State) (seg off : Word) : (s.noteReadByte seg off).pfx = s.pfx := rfl
@[simp] theorem State.noteReadByte_inProgress (s : State) (seg off : Word) : (s.noteReadByte seg off).inProgress = s.inProgress := rfl
@[simp] theorem State.noteReadByte_start (s : State) (seg off : Word) : (s.noteReadByte seg off).start = s.start := rfl
@[simp] theorem State.noteReadByte_shadow (s : State) (seg off : Word) : (s.noteReadByte seg off).shadow = s.shadow := rfl
@[simp] theorem State.noteReadByte_raised (s : State) (seg off : Word) : (s.noteReadByte seg off).raised = s.raised := rfl
@[simp] theorem State.noteReadByte_queue (s : State) (seg off : Word) : (s.noteReadByte seg off).queue = s.queue := rfl
@[simp] theorem State.noteReadByte_platform (s : State) (seg off : Word) : (s.noteReadByte seg off).platform = s.platform := rfl
@[simp] theorem State.noteReadByte_params (s : State) (seg off : Word) : (s.noteReadByte seg off).params = s.params := rfl
@[simp] theorem State.noteReadByte_bus (s : State) (seg off : Word) : (s.noteReadByte seg off).bus = s.byteCycles .read (physAddr seg off) (s.readByte seg off) ++ s.bus := rfl
@[simp] theorem State.noteReadByte_fetches (s : State) (seg off : Word) : (s.noteReadByte seg off).fetches = s.fetches := rfl
@[simp] theorem State.noteReadByte_ahead (s : State) (seg off : Word) : (s.noteReadByte seg off).ahead = s.ahead := rfl
@[simp] theorem State.noteReadByte_draws (s : State) (seg off : Word) : (s.noteReadByte seg off).draws = s.draws := rfl
@[simp] theorem State.noteReadByte_isMemory (s : State) (seg off : Word) (x : PhysAddr) : (s.noteReadByte seg off).isMemory x = s.isMemory x := rfl
@[simp] theorem State.noteReadByte_lockOutput (s : State) (seg off : Word) : (s.noteReadByte seg off).lockOutput = s.lockOutput := rfl
@[simp] theorem State.noteReadByte_memoryByte (s : State) (seg off : Word) (x : PhysAddr) : (s.noteReadByte seg off).memoryByte x = s.memoryByte x := rfl

@[simp] theorem State.noteReadWord_regs (s : State) (seg off : Word) : (s.noteReadWord seg off).regs = s.regs := rfl
@[simp] theorem State.noteReadWord_flags (s : State) (seg off : Word) : (s.noteReadWord seg off).flags = s.flags := rfl
@[simp] theorem State.noteReadWord_es (s : State) (seg off : Word) : (s.noteReadWord seg off).es = s.es := rfl
@[simp] theorem State.noteReadWord_cs (s : State) (seg off : Word) : (s.noteReadWord seg off).cs = s.cs := rfl
@[simp] theorem State.noteReadWord_ss (s : State) (seg off : Word) : (s.noteReadWord seg off).ss = s.ss := rfl
@[simp] theorem State.noteReadWord_ds (s : State) (seg off : Word) : (s.noteReadWord seg off).ds = s.ds := rfl
@[simp] theorem State.noteReadWord_ip (s : State) (seg off : Word) : (s.noteReadWord seg off).ip = s.ip := rfl
@[simp] theorem State.noteReadWord_mem (s : State) (seg off : Word) : (s.noteReadWord seg off).mem = s.mem := rfl
@[simp] theorem State.noteReadWord_halted (s : State) (seg off : Word) : (s.noteReadWord seg off).halted = s.halted := rfl
@[simp] theorem State.noteReadWord_pins (s : State) (seg off : Word) : (s.noteReadWord seg off).pins = s.pins := rfl
@[simp] theorem State.noteReadWord_pfx (s : State) (seg off : Word) : (s.noteReadWord seg off).pfx = s.pfx := rfl
@[simp] theorem State.noteReadWord_inProgress (s : State) (seg off : Word) : (s.noteReadWord seg off).inProgress = s.inProgress := rfl
@[simp] theorem State.noteReadWord_start (s : State) (seg off : Word) : (s.noteReadWord seg off).start = s.start := rfl
@[simp] theorem State.noteReadWord_shadow (s : State) (seg off : Word) : (s.noteReadWord seg off).shadow = s.shadow := rfl
@[simp] theorem State.noteReadWord_raised (s : State) (seg off : Word) : (s.noteReadWord seg off).raised = s.raised := rfl
@[simp] theorem State.noteReadWord_queue (s : State) (seg off : Word) : (s.noteReadWord seg off).queue = s.queue := rfl
@[simp] theorem State.noteReadWord_platform (s : State) (seg off : Word) : (s.noteReadWord seg off).platform = s.platform := rfl
@[simp] theorem State.noteReadWord_params (s : State) (seg off : Word) : (s.noteReadWord seg off).params = s.params := rfl
@[simp] theorem State.noteReadWord_bus (s : State) (seg off : Word) : (s.noteReadWord seg off).bus = s.wordCycles .read seg off (s.readWord seg off) ++ s.bus := rfl
@[simp] theorem State.noteReadWord_fetches (s : State) (seg off : Word) : (s.noteReadWord seg off).fetches = s.fetches := rfl
@[simp] theorem State.noteReadWord_ahead (s : State) (seg off : Word) : (s.noteReadWord seg off).ahead = s.ahead := rfl
@[simp] theorem State.noteReadWord_draws (s : State) (seg off : Word) : (s.noteReadWord seg off).draws = s.draws := rfl
@[simp] theorem State.noteReadWord_isMemory (s : State) (seg off : Word) (x : PhysAddr) : (s.noteReadWord seg off).isMemory x = s.isMemory x := rfl
@[simp] theorem State.noteReadWord_lockOutput (s : State) (seg off : Word) : (s.noteReadWord seg off).lockOutput = s.lockOutput := rfl
@[simp] theorem State.noteReadWord_memoryByte (s : State) (seg off : Word) (x : PhysAddr) : (s.noteReadWord seg off).memoryByte x = s.memoryByte x := rfl

@[simp] theorem State.noteReadPhysWord_regs (s : State) (a : PhysAddr) : (s.noteReadPhysWord a).regs = s.regs := rfl
@[simp] theorem State.noteReadPhysWord_flags (s : State) (a : PhysAddr) : (s.noteReadPhysWord a).flags = s.flags := rfl
@[simp] theorem State.noteReadPhysWord_es (s : State) (a : PhysAddr) : (s.noteReadPhysWord a).es = s.es := rfl
@[simp] theorem State.noteReadPhysWord_cs (s : State) (a : PhysAddr) : (s.noteReadPhysWord a).cs = s.cs := rfl
@[simp] theorem State.noteReadPhysWord_ss (s : State) (a : PhysAddr) : (s.noteReadPhysWord a).ss = s.ss := rfl
@[simp] theorem State.noteReadPhysWord_ds (s : State) (a : PhysAddr) : (s.noteReadPhysWord a).ds = s.ds := rfl
@[simp] theorem State.noteReadPhysWord_ip (s : State) (a : PhysAddr) : (s.noteReadPhysWord a).ip = s.ip := rfl
@[simp] theorem State.noteReadPhysWord_mem (s : State) (a : PhysAddr) : (s.noteReadPhysWord a).mem = s.mem := rfl
@[simp] theorem State.noteReadPhysWord_halted (s : State) (a : PhysAddr) : (s.noteReadPhysWord a).halted = s.halted := rfl
@[simp] theorem State.noteReadPhysWord_pins (s : State) (a : PhysAddr) : (s.noteReadPhysWord a).pins = s.pins := rfl
@[simp] theorem State.noteReadPhysWord_pfx (s : State) (a : PhysAddr) : (s.noteReadPhysWord a).pfx = s.pfx := rfl
@[simp] theorem State.noteReadPhysWord_inProgress (s : State) (a : PhysAddr) : (s.noteReadPhysWord a).inProgress = s.inProgress := rfl
@[simp] theorem State.noteReadPhysWord_start (s : State) (a : PhysAddr) : (s.noteReadPhysWord a).start = s.start := rfl
@[simp] theorem State.noteReadPhysWord_shadow (s : State) (a : PhysAddr) : (s.noteReadPhysWord a).shadow = s.shadow := rfl
@[simp] theorem State.noteReadPhysWord_raised (s : State) (a : PhysAddr) : (s.noteReadPhysWord a).raised = s.raised := rfl
@[simp] theorem State.noteReadPhysWord_queue (s : State) (a : PhysAddr) : (s.noteReadPhysWord a).queue = s.queue := rfl
@[simp] theorem State.noteReadPhysWord_platform (s : State) (a : PhysAddr) : (s.noteReadPhysWord a).platform = s.platform := rfl
@[simp] theorem State.noteReadPhysWord_params (s : State) (a : PhysAddr) : (s.noteReadPhysWord a).params = s.params := rfl
@[simp] theorem State.noteReadPhysWord_fetches (s : State) (a : PhysAddr) : (s.noteReadPhysWord a).fetches = s.fetches := rfl
@[simp] theorem State.noteReadPhysWord_ahead (s : State) (a : PhysAddr) : (s.noteReadPhysWord a).ahead = s.ahead := rfl
@[simp] theorem State.noteReadPhysWord_draws (s : State) (a : PhysAddr) : (s.noteReadPhysWord a).draws = s.draws := rfl
@[simp] theorem State.noteReadPhysWord_isMemory (s : State) (a : PhysAddr) (x : PhysAddr) : (s.noteReadPhysWord a).isMemory x = s.isMemory x := rfl
@[simp] theorem State.noteReadPhysWord_lockOutput (s : State) (a : PhysAddr) : (s.noteReadPhysWord a).lockOutput = s.lockOutput := rfl
@[simp] theorem State.noteReadPhysWord_memoryByte (s : State) (a : PhysAddr) (x : PhysAddr) : (s.noteReadPhysWord a).memoryByte x = s.memoryByte x := rfl

@[simp] theorem State.noteGet8_regs (s : State) (l : Loc8) : (s.noteGet8 l).regs = s.regs := by cases l <;> rfl
@[simp] theorem State.noteGet8_flags (s : State) (l : Loc8) : (s.noteGet8 l).flags = s.flags := by cases l <;> rfl
@[simp] theorem State.noteGet8_es (s : State) (l : Loc8) : (s.noteGet8 l).es = s.es := by cases l <;> rfl
@[simp] theorem State.noteGet8_cs (s : State) (l : Loc8) : (s.noteGet8 l).cs = s.cs := by cases l <;> rfl
@[simp] theorem State.noteGet8_ss (s : State) (l : Loc8) : (s.noteGet8 l).ss = s.ss := by cases l <;> rfl
@[simp] theorem State.noteGet8_ds (s : State) (l : Loc8) : (s.noteGet8 l).ds = s.ds := by cases l <;> rfl
@[simp] theorem State.noteGet8_ip (s : State) (l : Loc8) : (s.noteGet8 l).ip = s.ip := by cases l <;> rfl
@[simp] theorem State.noteGet8_mem (s : State) (l : Loc8) : (s.noteGet8 l).mem = s.mem := by cases l <;> rfl
@[simp] theorem State.noteGet8_halted (s : State) (l : Loc8) : (s.noteGet8 l).halted = s.halted := by cases l <;> rfl
@[simp] theorem State.noteGet8_pins (s : State) (l : Loc8) : (s.noteGet8 l).pins = s.pins := by cases l <;> rfl
@[simp] theorem State.noteGet8_pfx (s : State) (l : Loc8) : (s.noteGet8 l).pfx = s.pfx := by cases l <;> rfl
@[simp] theorem State.noteGet8_inProgress (s : State) (l : Loc8) : (s.noteGet8 l).inProgress = s.inProgress := by cases l <;> rfl
@[simp] theorem State.noteGet8_start (s : State) (l : Loc8) : (s.noteGet8 l).start = s.start := by cases l <;> rfl
@[simp] theorem State.noteGet8_shadow (s : State) (l : Loc8) : (s.noteGet8 l).shadow = s.shadow := by cases l <;> rfl
@[simp] theorem State.noteGet8_raised (s : State) (l : Loc8) : (s.noteGet8 l).raised = s.raised := by cases l <;> rfl
@[simp] theorem State.noteGet8_queue (s : State) (l : Loc8) : (s.noteGet8 l).queue = s.queue := by cases l <;> rfl
@[simp] theorem State.noteGet8_platform (s : State) (l : Loc8) : (s.noteGet8 l).platform = s.platform := by cases l <;> rfl
@[simp] theorem State.noteGet8_params (s : State) (l : Loc8) : (s.noteGet8 l).params = s.params := by cases l <;> rfl
@[simp] theorem State.noteGet8_fetches (s : State) (l : Loc8) : (s.noteGet8 l).fetches = s.fetches := by cases l <;> rfl
@[simp] theorem State.noteGet8_ahead (s : State) (l : Loc8) : (s.noteGet8 l).ahead = s.ahead := by cases l <;> rfl
@[simp] theorem State.noteGet8_draws (s : State) (l : Loc8) : (s.noteGet8 l).draws = s.draws := by cases l <;> rfl
@[simp] theorem State.noteGet8_isMemory (s : State) (l : Loc8) (x : PhysAddr) : (s.noteGet8 l).isMemory x = s.isMemory x := by cases l <;> rfl
@[simp] theorem State.noteGet8_lockOutput (s : State) (l : Loc8) : (s.noteGet8 l).lockOutput = s.lockOutput := by cases l <;> rfl
@[simp] theorem State.noteGet8_memoryByte (s : State) (l : Loc8) (x : PhysAddr) : (s.noteGet8 l).memoryByte x = s.memoryByte x := by cases l <;> rfl

@[simp] theorem State.noteGet16_regs (s : State) (l : Loc16) : (s.noteGet16 l).regs = s.regs := by cases l <;> rfl
@[simp] theorem State.noteGet16_flags (s : State) (l : Loc16) : (s.noteGet16 l).flags = s.flags := by cases l <;> rfl
@[simp] theorem State.noteGet16_es (s : State) (l : Loc16) : (s.noteGet16 l).es = s.es := by cases l <;> rfl
@[simp] theorem State.noteGet16_cs (s : State) (l : Loc16) : (s.noteGet16 l).cs = s.cs := by cases l <;> rfl
@[simp] theorem State.noteGet16_ss (s : State) (l : Loc16) : (s.noteGet16 l).ss = s.ss := by cases l <;> rfl
@[simp] theorem State.noteGet16_ds (s : State) (l : Loc16) : (s.noteGet16 l).ds = s.ds := by cases l <;> rfl
@[simp] theorem State.noteGet16_ip (s : State) (l : Loc16) : (s.noteGet16 l).ip = s.ip := by cases l <;> rfl
@[simp] theorem State.noteGet16_mem (s : State) (l : Loc16) : (s.noteGet16 l).mem = s.mem := by cases l <;> rfl
@[simp] theorem State.noteGet16_halted (s : State) (l : Loc16) : (s.noteGet16 l).halted = s.halted := by cases l <;> rfl
@[simp] theorem State.noteGet16_pins (s : State) (l : Loc16) : (s.noteGet16 l).pins = s.pins := by cases l <;> rfl
@[simp] theorem State.noteGet16_pfx (s : State) (l : Loc16) : (s.noteGet16 l).pfx = s.pfx := by cases l <;> rfl
@[simp] theorem State.noteGet16_inProgress (s : State) (l : Loc16) : (s.noteGet16 l).inProgress = s.inProgress := by cases l <;> rfl
@[simp] theorem State.noteGet16_start (s : State) (l : Loc16) : (s.noteGet16 l).start = s.start := by cases l <;> rfl
@[simp] theorem State.noteGet16_shadow (s : State) (l : Loc16) : (s.noteGet16 l).shadow = s.shadow := by cases l <;> rfl
@[simp] theorem State.noteGet16_raised (s : State) (l : Loc16) : (s.noteGet16 l).raised = s.raised := by cases l <;> rfl
@[simp] theorem State.noteGet16_queue (s : State) (l : Loc16) : (s.noteGet16 l).queue = s.queue := by cases l <;> rfl
@[simp] theorem State.noteGet16_platform (s : State) (l : Loc16) : (s.noteGet16 l).platform = s.platform := by cases l <;> rfl
@[simp] theorem State.noteGet16_params (s : State) (l : Loc16) : (s.noteGet16 l).params = s.params := by cases l <;> rfl
@[simp] theorem State.noteGet16_fetches (s : State) (l : Loc16) : (s.noteGet16 l).fetches = s.fetches := by cases l <;> rfl
@[simp] theorem State.noteGet16_ahead (s : State) (l : Loc16) : (s.noteGet16 l).ahead = s.ahead := by cases l <;> rfl
@[simp] theorem State.noteGet16_draws (s : State) (l : Loc16) : (s.noteGet16 l).draws = s.draws := by cases l <;> rfl
@[simp] theorem State.noteGet16_isMemory (s : State) (l : Loc16) (x : PhysAddr) : (s.noteGet16 l).isMemory x = s.isMemory x := by cases l <;> rfl
@[simp] theorem State.noteGet16_lockOutput (s : State) (l : Loc16) : (s.noteGet16 l).lockOutput = s.lockOutput := by cases l <;> rfl
@[simp] theorem State.noteGet16_memoryByte (s : State) (l : Loc16) (x : PhysAddr) : (s.noteGet16 l).memoryByte x = s.memoryByte x := by cases l <;> rfl

@[simp] theorem State.noteRm8_regs (s : State) (m : Rm8) : (s.noteRm8 m).regs = s.regs := by cases m <;> rfl
@[simp] theorem State.noteRm8_flags (s : State) (m : Rm8) : (s.noteRm8 m).flags = s.flags := by cases m <;> rfl
@[simp] theorem State.noteRm8_es (s : State) (m : Rm8) : (s.noteRm8 m).es = s.es := by cases m <;> rfl
@[simp] theorem State.noteRm8_cs (s : State) (m : Rm8) : (s.noteRm8 m).cs = s.cs := by cases m <;> rfl
@[simp] theorem State.noteRm8_ss (s : State) (m : Rm8) : (s.noteRm8 m).ss = s.ss := by cases m <;> rfl
@[simp] theorem State.noteRm8_ds (s : State) (m : Rm8) : (s.noteRm8 m).ds = s.ds := by cases m <;> rfl
@[simp] theorem State.noteRm8_ip (s : State) (m : Rm8) : (s.noteRm8 m).ip = s.ip := by cases m <;> rfl
@[simp] theorem State.noteRm8_mem (s : State) (m : Rm8) : (s.noteRm8 m).mem = s.mem := by cases m <;> rfl
@[simp] theorem State.noteRm8_halted (s : State) (m : Rm8) : (s.noteRm8 m).halted = s.halted := by cases m <;> rfl
@[simp] theorem State.noteRm8_pins (s : State) (m : Rm8) : (s.noteRm8 m).pins = s.pins := by cases m <;> rfl
@[simp] theorem State.noteRm8_pfx (s : State) (m : Rm8) : (s.noteRm8 m).pfx = s.pfx := by cases m <;> rfl
@[simp] theorem State.noteRm8_inProgress (s : State) (m : Rm8) : (s.noteRm8 m).inProgress = s.inProgress := by cases m <;> rfl
@[simp] theorem State.noteRm8_start (s : State) (m : Rm8) : (s.noteRm8 m).start = s.start := by cases m <;> rfl
@[simp] theorem State.noteRm8_shadow (s : State) (m : Rm8) : (s.noteRm8 m).shadow = s.shadow := by cases m <;> rfl
@[simp] theorem State.noteRm8_raised (s : State) (m : Rm8) : (s.noteRm8 m).raised = s.raised := by cases m <;> rfl
@[simp] theorem State.noteRm8_queue (s : State) (m : Rm8) : (s.noteRm8 m).queue = s.queue := by cases m <;> rfl
@[simp] theorem State.noteRm8_platform (s : State) (m : Rm8) : (s.noteRm8 m).platform = s.platform := by cases m <;> rfl
@[simp] theorem State.noteRm8_params (s : State) (m : Rm8) : (s.noteRm8 m).params = s.params := by cases m <;> rfl
@[simp] theorem State.noteRm8_fetches (s : State) (m : Rm8) : (s.noteRm8 m).fetches = s.fetches := by cases m <;> rfl
@[simp] theorem State.noteRm8_ahead (s : State) (m : Rm8) : (s.noteRm8 m).ahead = s.ahead := by cases m <;> rfl
@[simp] theorem State.noteRm8_draws (s : State) (m : Rm8) : (s.noteRm8 m).draws = s.draws := by cases m <;> rfl
@[simp] theorem State.noteRm8_isMemory (s : State) (m : Rm8) (x : PhysAddr) : (s.noteRm8 m).isMemory x = s.isMemory x := by cases m <;> rfl
@[simp] theorem State.noteRm8_lockOutput (s : State) (m : Rm8) : (s.noteRm8 m).lockOutput = s.lockOutput := by cases m <;> rfl
@[simp] theorem State.noteRm8_memoryByte (s : State) (m : Rm8) (x : PhysAddr) : (s.noteRm8 m).memoryByte x = s.memoryByte x := by cases m <;> rfl

@[simp] theorem State.noteRm16_regs (s : State) (m : Rm16) : (s.noteRm16 m).regs = s.regs := by cases m <;> rfl
@[simp] theorem State.noteRm16_flags (s : State) (m : Rm16) : (s.noteRm16 m).flags = s.flags := by cases m <;> rfl
@[simp] theorem State.noteRm16_es (s : State) (m : Rm16) : (s.noteRm16 m).es = s.es := by cases m <;> rfl
@[simp] theorem State.noteRm16_cs (s : State) (m : Rm16) : (s.noteRm16 m).cs = s.cs := by cases m <;> rfl
@[simp] theorem State.noteRm16_ss (s : State) (m : Rm16) : (s.noteRm16 m).ss = s.ss := by cases m <;> rfl
@[simp] theorem State.noteRm16_ds (s : State) (m : Rm16) : (s.noteRm16 m).ds = s.ds := by cases m <;> rfl
@[simp] theorem State.noteRm16_ip (s : State) (m : Rm16) : (s.noteRm16 m).ip = s.ip := by cases m <;> rfl
@[simp] theorem State.noteRm16_mem (s : State) (m : Rm16) : (s.noteRm16 m).mem = s.mem := by cases m <;> rfl
@[simp] theorem State.noteRm16_halted (s : State) (m : Rm16) : (s.noteRm16 m).halted = s.halted := by cases m <;> rfl
@[simp] theorem State.noteRm16_pins (s : State) (m : Rm16) : (s.noteRm16 m).pins = s.pins := by cases m <;> rfl
@[simp] theorem State.noteRm16_pfx (s : State) (m : Rm16) : (s.noteRm16 m).pfx = s.pfx := by cases m <;> rfl
@[simp] theorem State.noteRm16_inProgress (s : State) (m : Rm16) : (s.noteRm16 m).inProgress = s.inProgress := by cases m <;> rfl
@[simp] theorem State.noteRm16_start (s : State) (m : Rm16) : (s.noteRm16 m).start = s.start := by cases m <;> rfl
@[simp] theorem State.noteRm16_shadow (s : State) (m : Rm16) : (s.noteRm16 m).shadow = s.shadow := by cases m <;> rfl
@[simp] theorem State.noteRm16_raised (s : State) (m : Rm16) : (s.noteRm16 m).raised = s.raised := by cases m <;> rfl
@[simp] theorem State.noteRm16_queue (s : State) (m : Rm16) : (s.noteRm16 m).queue = s.queue := by cases m <;> rfl
@[simp] theorem State.noteRm16_platform (s : State) (m : Rm16) : (s.noteRm16 m).platform = s.platform := by cases m <;> rfl
@[simp] theorem State.noteRm16_params (s : State) (m : Rm16) : (s.noteRm16 m).params = s.params := by cases m <;> rfl
@[simp] theorem State.noteRm16_fetches (s : State) (m : Rm16) : (s.noteRm16 m).fetches = s.fetches := by cases m <;> rfl
@[simp] theorem State.noteRm16_ahead (s : State) (m : Rm16) : (s.noteRm16 m).ahead = s.ahead := by cases m <;> rfl
@[simp] theorem State.noteRm16_draws (s : State) (m : Rm16) : (s.noteRm16 m).draws = s.draws := by cases m <;> rfl
@[simp] theorem State.noteRm16_isMemory (s : State) (m : Rm16) (x : PhysAddr) : (s.noteRm16 m).isMemory x = s.isMemory x := by cases m <;> rfl
@[simp] theorem State.noteRm16_lockOutput (s : State) (m : Rm16) : (s.noteRm16 m).lockOutput = s.lockOutput := by cases m <;> rfl
@[simp] theorem State.noteRm16_memoryByte (s : State) (m : Rm16) (x : PhysAddr) : (s.noteRm16 m).memoryByte x = s.memoryByte x := by cases m <;> rfl

@[simp] theorem State.noteFarOffset_regs (s : State) (m : Mem) : (s.noteFarOffset m).regs = s.regs := rfl
@[simp] theorem State.noteFarOffset_flags (s : State) (m : Mem) : (s.noteFarOffset m).flags = s.flags := rfl
@[simp] theorem State.noteFarOffset_es (s : State) (m : Mem) : (s.noteFarOffset m).es = s.es := rfl
@[simp] theorem State.noteFarOffset_cs (s : State) (m : Mem) : (s.noteFarOffset m).cs = s.cs := rfl
@[simp] theorem State.noteFarOffset_ss (s : State) (m : Mem) : (s.noteFarOffset m).ss = s.ss := rfl
@[simp] theorem State.noteFarOffset_ds (s : State) (m : Mem) : (s.noteFarOffset m).ds = s.ds := rfl
@[simp] theorem State.noteFarOffset_ip (s : State) (m : Mem) : (s.noteFarOffset m).ip = s.ip := rfl
@[simp] theorem State.noteFarOffset_mem (s : State) (m : Mem) : (s.noteFarOffset m).mem = s.mem := rfl
@[simp] theorem State.noteFarOffset_halted (s : State) (m : Mem) : (s.noteFarOffset m).halted = s.halted := rfl
@[simp] theorem State.noteFarOffset_pins (s : State) (m : Mem) : (s.noteFarOffset m).pins = s.pins := rfl
@[simp] theorem State.noteFarOffset_pfx (s : State) (m : Mem) : (s.noteFarOffset m).pfx = s.pfx := rfl
@[simp] theorem State.noteFarOffset_inProgress (s : State) (m : Mem) : (s.noteFarOffset m).inProgress = s.inProgress := rfl
@[simp] theorem State.noteFarOffset_start (s : State) (m : Mem) : (s.noteFarOffset m).start = s.start := rfl
@[simp] theorem State.noteFarOffset_shadow (s : State) (m : Mem) : (s.noteFarOffset m).shadow = s.shadow := rfl
@[simp] theorem State.noteFarOffset_raised (s : State) (m : Mem) : (s.noteFarOffset m).raised = s.raised := rfl
@[simp] theorem State.noteFarOffset_queue (s : State) (m : Mem) : (s.noteFarOffset m).queue = s.queue := rfl
@[simp] theorem State.noteFarOffset_platform (s : State) (m : Mem) : (s.noteFarOffset m).platform = s.platform := rfl
@[simp] theorem State.noteFarOffset_params (s : State) (m : Mem) : (s.noteFarOffset m).params = s.params := rfl
@[simp] theorem State.noteFarOffset_fetches (s : State) (m : Mem) : (s.noteFarOffset m).fetches = s.fetches := rfl
@[simp] theorem State.noteFarOffset_ahead (s : State) (m : Mem) : (s.noteFarOffset m).ahead = s.ahead := rfl
@[simp] theorem State.noteFarOffset_draws (s : State) (m : Mem) : (s.noteFarOffset m).draws = s.draws := rfl
@[simp] theorem State.noteFarOffset_isMemory (s : State) (m : Mem) (x : PhysAddr) : (s.noteFarOffset m).isMemory x = s.isMemory x := rfl
@[simp] theorem State.noteFarOffset_lockOutput (s : State) (m : Mem) : (s.noteFarOffset m).lockOutput = s.lockOutput := rfl
@[simp] theorem State.noteFarOffset_memoryByte (s : State) (m : Mem) (x : PhysAddr) : (s.noteFarOffset m).memoryByte x = s.memoryByte x := rfl

@[simp] theorem State.noteFar_regs (s : State) (m : Mem) : (s.noteFar m).regs = s.regs := rfl
@[simp] theorem State.noteFar_flags (s : State) (m : Mem) : (s.noteFar m).flags = s.flags := rfl
@[simp] theorem State.noteFar_es (s : State) (m : Mem) : (s.noteFar m).es = s.es := rfl
@[simp] theorem State.noteFar_cs (s : State) (m : Mem) : (s.noteFar m).cs = s.cs := rfl
@[simp] theorem State.noteFar_ss (s : State) (m : Mem) : (s.noteFar m).ss = s.ss := rfl
@[simp] theorem State.noteFar_ds (s : State) (m : Mem) : (s.noteFar m).ds = s.ds := rfl
@[simp] theorem State.noteFar_ip (s : State) (m : Mem) : (s.noteFar m).ip = s.ip := rfl
@[simp] theorem State.noteFar_mem (s : State) (m : Mem) : (s.noteFar m).mem = s.mem := rfl
@[simp] theorem State.noteFar_halted (s : State) (m : Mem) : (s.noteFar m).halted = s.halted := rfl
@[simp] theorem State.noteFar_pins (s : State) (m : Mem) : (s.noteFar m).pins = s.pins := rfl
@[simp] theorem State.noteFar_pfx (s : State) (m : Mem) : (s.noteFar m).pfx = s.pfx := rfl
@[simp] theorem State.noteFar_inProgress (s : State) (m : Mem) : (s.noteFar m).inProgress = s.inProgress := rfl
@[simp] theorem State.noteFar_start (s : State) (m : Mem) : (s.noteFar m).start = s.start := rfl
@[simp] theorem State.noteFar_shadow (s : State) (m : Mem) : (s.noteFar m).shadow = s.shadow := rfl
@[simp] theorem State.noteFar_raised (s : State) (m : Mem) : (s.noteFar m).raised = s.raised := rfl
@[simp] theorem State.noteFar_queue (s : State) (m : Mem) : (s.noteFar m).queue = s.queue := rfl
@[simp] theorem State.noteFar_platform (s : State) (m : Mem) : (s.noteFar m).platform = s.platform := rfl
@[simp] theorem State.noteFar_params (s : State) (m : Mem) : (s.noteFar m).params = s.params := rfl
@[simp] theorem State.noteFar_fetches (s : State) (m : Mem) : (s.noteFar m).fetches = s.fetches := rfl
@[simp] theorem State.noteFar_ahead (s : State) (m : Mem) : (s.noteFar m).ahead = s.ahead := rfl
@[simp] theorem State.noteFar_draws (s : State) (m : Mem) : (s.noteFar m).draws = s.draws := rfl
@[simp] theorem State.noteFar_isMemory (s : State) (m : Mem) (x : PhysAddr) : (s.noteFar m).isMemory x = s.isMemory x := rfl
@[simp] theorem State.noteFar_lockOutput (s : State) (m : Mem) : (s.noteFar m).lockOutput = s.lockOutput := rfl
@[simp] theorem State.noteFar_memoryByte (s : State) (m : Mem) (x : PhysAddr) : (s.noteFar m).memoryByte x = s.memoryByte x := rfl

@[simp] theorem State.noteSource8_regs (s : State) : (s.noteSource8).regs = s.regs := rfl
@[simp] theorem State.noteSource8_flags (s : State) : (s.noteSource8).flags = s.flags := rfl
@[simp] theorem State.noteSource8_es (s : State) : (s.noteSource8).es = s.es := rfl
@[simp] theorem State.noteSource8_cs (s : State) : (s.noteSource8).cs = s.cs := rfl
@[simp] theorem State.noteSource8_ss (s : State) : (s.noteSource8).ss = s.ss := rfl
@[simp] theorem State.noteSource8_ds (s : State) : (s.noteSource8).ds = s.ds := rfl
@[simp] theorem State.noteSource8_ip (s : State) : (s.noteSource8).ip = s.ip := rfl
@[simp] theorem State.noteSource8_mem (s : State) : (s.noteSource8).mem = s.mem := rfl
@[simp] theorem State.noteSource8_halted (s : State) : (s.noteSource8).halted = s.halted := rfl
@[simp] theorem State.noteSource8_pins (s : State) : (s.noteSource8).pins = s.pins := rfl
@[simp] theorem State.noteSource8_pfx (s : State) : (s.noteSource8).pfx = s.pfx := rfl
@[simp] theorem State.noteSource8_inProgress (s : State) : (s.noteSource8).inProgress = s.inProgress := rfl
@[simp] theorem State.noteSource8_start (s : State) : (s.noteSource8).start = s.start := rfl
@[simp] theorem State.noteSource8_shadow (s : State) : (s.noteSource8).shadow = s.shadow := rfl
@[simp] theorem State.noteSource8_raised (s : State) : (s.noteSource8).raised = s.raised := rfl
@[simp] theorem State.noteSource8_queue (s : State) : (s.noteSource8).queue = s.queue := rfl
@[simp] theorem State.noteSource8_platform (s : State) : (s.noteSource8).platform = s.platform := rfl
@[simp] theorem State.noteSource8_params (s : State) : (s.noteSource8).params = s.params := rfl
@[simp] theorem State.noteSource8_fetches (s : State) : (s.noteSource8).fetches = s.fetches := rfl
@[simp] theorem State.noteSource8_ahead (s : State) : (s.noteSource8).ahead = s.ahead := rfl
@[simp] theorem State.noteSource8_draws (s : State) : (s.noteSource8).draws = s.draws := rfl
@[simp] theorem State.noteSource8_isMemory (s : State) (x : PhysAddr) : (s.noteSource8).isMemory x = s.isMemory x := rfl
@[simp] theorem State.noteSource8_lockOutput (s : State) : (s.noteSource8).lockOutput = s.lockOutput := rfl
@[simp] theorem State.noteSource8_memoryByte (s : State) (x : PhysAddr) : (s.noteSource8).memoryByte x = s.memoryByte x := rfl

@[simp] theorem State.noteSource16_regs (s : State) : (s.noteSource16).regs = s.regs := rfl
@[simp] theorem State.noteSource16_flags (s : State) : (s.noteSource16).flags = s.flags := rfl
@[simp] theorem State.noteSource16_es (s : State) : (s.noteSource16).es = s.es := rfl
@[simp] theorem State.noteSource16_cs (s : State) : (s.noteSource16).cs = s.cs := rfl
@[simp] theorem State.noteSource16_ss (s : State) : (s.noteSource16).ss = s.ss := rfl
@[simp] theorem State.noteSource16_ds (s : State) : (s.noteSource16).ds = s.ds := rfl
@[simp] theorem State.noteSource16_ip (s : State) : (s.noteSource16).ip = s.ip := rfl
@[simp] theorem State.noteSource16_mem (s : State) : (s.noteSource16).mem = s.mem := rfl
@[simp] theorem State.noteSource16_halted (s : State) : (s.noteSource16).halted = s.halted := rfl
@[simp] theorem State.noteSource16_pins (s : State) : (s.noteSource16).pins = s.pins := rfl
@[simp] theorem State.noteSource16_pfx (s : State) : (s.noteSource16).pfx = s.pfx := rfl
@[simp] theorem State.noteSource16_inProgress (s : State) : (s.noteSource16).inProgress = s.inProgress := rfl
@[simp] theorem State.noteSource16_start (s : State) : (s.noteSource16).start = s.start := rfl
@[simp] theorem State.noteSource16_shadow (s : State) : (s.noteSource16).shadow = s.shadow := rfl
@[simp] theorem State.noteSource16_raised (s : State) : (s.noteSource16).raised = s.raised := rfl
@[simp] theorem State.noteSource16_queue (s : State) : (s.noteSource16).queue = s.queue := rfl
@[simp] theorem State.noteSource16_platform (s : State) : (s.noteSource16).platform = s.platform := rfl
@[simp] theorem State.noteSource16_params (s : State) : (s.noteSource16).params = s.params := rfl
@[simp] theorem State.noteSource16_fetches (s : State) : (s.noteSource16).fetches = s.fetches := rfl
@[simp] theorem State.noteSource16_ahead (s : State) : (s.noteSource16).ahead = s.ahead := rfl
@[simp] theorem State.noteSource16_draws (s : State) : (s.noteSource16).draws = s.draws := rfl
@[simp] theorem State.noteSource16_isMemory (s : State) (x : PhysAddr) : (s.noteSource16).isMemory x = s.isMemory x := rfl
@[simp] theorem State.noteSource16_lockOutput (s : State) : (s.noteSource16).lockOutput = s.lockOutput := rfl
@[simp] theorem State.noteSource16_memoryByte (s : State) (x : PhysAddr) : (s.noteSource16).memoryByte x = s.memoryByte x := rfl

@[simp] theorem State.noteDest8_regs (s : State) : (s.noteDest8).regs = s.regs := rfl
@[simp] theorem State.noteDest8_flags (s : State) : (s.noteDest8).flags = s.flags := rfl
@[simp] theorem State.noteDest8_es (s : State) : (s.noteDest8).es = s.es := rfl
@[simp] theorem State.noteDest8_cs (s : State) : (s.noteDest8).cs = s.cs := rfl
@[simp] theorem State.noteDest8_ss (s : State) : (s.noteDest8).ss = s.ss := rfl
@[simp] theorem State.noteDest8_ds (s : State) : (s.noteDest8).ds = s.ds := rfl
@[simp] theorem State.noteDest8_ip (s : State) : (s.noteDest8).ip = s.ip := rfl
@[simp] theorem State.noteDest8_mem (s : State) : (s.noteDest8).mem = s.mem := rfl
@[simp] theorem State.noteDest8_halted (s : State) : (s.noteDest8).halted = s.halted := rfl
@[simp] theorem State.noteDest8_pins (s : State) : (s.noteDest8).pins = s.pins := rfl
@[simp] theorem State.noteDest8_pfx (s : State) : (s.noteDest8).pfx = s.pfx := rfl
@[simp] theorem State.noteDest8_inProgress (s : State) : (s.noteDest8).inProgress = s.inProgress := rfl
@[simp] theorem State.noteDest8_start (s : State) : (s.noteDest8).start = s.start := rfl
@[simp] theorem State.noteDest8_shadow (s : State) : (s.noteDest8).shadow = s.shadow := rfl
@[simp] theorem State.noteDest8_raised (s : State) : (s.noteDest8).raised = s.raised := rfl
@[simp] theorem State.noteDest8_queue (s : State) : (s.noteDest8).queue = s.queue := rfl
@[simp] theorem State.noteDest8_platform (s : State) : (s.noteDest8).platform = s.platform := rfl
@[simp] theorem State.noteDest8_params (s : State) : (s.noteDest8).params = s.params := rfl
@[simp] theorem State.noteDest8_fetches (s : State) : (s.noteDest8).fetches = s.fetches := rfl
@[simp] theorem State.noteDest8_ahead (s : State) : (s.noteDest8).ahead = s.ahead := rfl
@[simp] theorem State.noteDest8_draws (s : State) : (s.noteDest8).draws = s.draws := rfl
@[simp] theorem State.noteDest8_isMemory (s : State) (x : PhysAddr) : (s.noteDest8).isMemory x = s.isMemory x := rfl
@[simp] theorem State.noteDest8_lockOutput (s : State) : (s.noteDest8).lockOutput = s.lockOutput := rfl
@[simp] theorem State.noteDest8_memoryByte (s : State) (x : PhysAddr) : (s.noteDest8).memoryByte x = s.memoryByte x := rfl

@[simp] theorem State.noteDest16_regs (s : State) : (s.noteDest16).regs = s.regs := rfl
@[simp] theorem State.noteDest16_flags (s : State) : (s.noteDest16).flags = s.flags := rfl
@[simp] theorem State.noteDest16_es (s : State) : (s.noteDest16).es = s.es := rfl
@[simp] theorem State.noteDest16_cs (s : State) : (s.noteDest16).cs = s.cs := rfl
@[simp] theorem State.noteDest16_ss (s : State) : (s.noteDest16).ss = s.ss := rfl
@[simp] theorem State.noteDest16_ds (s : State) : (s.noteDest16).ds = s.ds := rfl
@[simp] theorem State.noteDest16_ip (s : State) : (s.noteDest16).ip = s.ip := rfl
@[simp] theorem State.noteDest16_mem (s : State) : (s.noteDest16).mem = s.mem := rfl
@[simp] theorem State.noteDest16_halted (s : State) : (s.noteDest16).halted = s.halted := rfl
@[simp] theorem State.noteDest16_pins (s : State) : (s.noteDest16).pins = s.pins := rfl
@[simp] theorem State.noteDest16_pfx (s : State) : (s.noteDest16).pfx = s.pfx := rfl
@[simp] theorem State.noteDest16_inProgress (s : State) : (s.noteDest16).inProgress = s.inProgress := rfl
@[simp] theorem State.noteDest16_start (s : State) : (s.noteDest16).start = s.start := rfl
@[simp] theorem State.noteDest16_shadow (s : State) : (s.noteDest16).shadow = s.shadow := rfl
@[simp] theorem State.noteDest16_raised (s : State) : (s.noteDest16).raised = s.raised := rfl
@[simp] theorem State.noteDest16_queue (s : State) : (s.noteDest16).queue = s.queue := rfl
@[simp] theorem State.noteDest16_platform (s : State) : (s.noteDest16).platform = s.platform := rfl
@[simp] theorem State.noteDest16_params (s : State) : (s.noteDest16).params = s.params := rfl
@[simp] theorem State.noteDest16_fetches (s : State) : (s.noteDest16).fetches = s.fetches := rfl
@[simp] theorem State.noteDest16_ahead (s : State) : (s.noteDest16).ahead = s.ahead := rfl
@[simp] theorem State.noteDest16_draws (s : State) : (s.noteDest16).draws = s.draws := rfl
@[simp] theorem State.noteDest16_isMemory (s : State) (x : PhysAddr) : (s.noteDest16).isMemory x = s.isMemory x := rfl
@[simp] theorem State.noteDest16_lockOutput (s : State) : (s.noteDest16).lockOutput = s.lockOutput := rfl
@[simp] theorem State.noteDest16_memoryByte (s : State) (x : PhysAddr) : (s.noteDest16).memoryByte x = s.memoryByte x := rfl

@[simp] theorem State.writePhys_regs (s : State) (a : PhysAddr) (v : Byte) : (s.writePhys a v).regs = s.regs := rfl
@[simp] theorem State.writePhys_flags (s : State) (a : PhysAddr) (v : Byte) : (s.writePhys a v).flags = s.flags := rfl
@[simp] theorem State.writePhys_es (s : State) (a : PhysAddr) (v : Byte) : (s.writePhys a v).es = s.es := rfl
@[simp] theorem State.writePhys_cs (s : State) (a : PhysAddr) (v : Byte) : (s.writePhys a v).cs = s.cs := rfl
@[simp] theorem State.writePhys_ss (s : State) (a : PhysAddr) (v : Byte) : (s.writePhys a v).ss = s.ss := rfl
@[simp] theorem State.writePhys_ds (s : State) (a : PhysAddr) (v : Byte) : (s.writePhys a v).ds = s.ds := rfl
@[simp] theorem State.writePhys_ip (s : State) (a : PhysAddr) (v : Byte) : (s.writePhys a v).ip = s.ip := rfl
@[simp] theorem State.writePhys_mem (s : State) (a : PhysAddr) (v : Byte) : (s.writePhys a v).mem = if s.isMemory a then s.mem.write a.toNat v else s.mem := rfl
@[simp] theorem State.writePhys_halted (s : State) (a : PhysAddr) (v : Byte) : (s.writePhys a v).halted = s.halted := rfl
@[simp] theorem State.writePhys_pins (s : State) (a : PhysAddr) (v : Byte) : (s.writePhys a v).pins = s.pins := rfl
@[simp] theorem State.writePhys_pfx (s : State) (a : PhysAddr) (v : Byte) : (s.writePhys a v).pfx = s.pfx := rfl
@[simp] theorem State.writePhys_inProgress (s : State) (a : PhysAddr) (v : Byte) : (s.writePhys a v).inProgress = s.inProgress := rfl
@[simp] theorem State.writePhys_start (s : State) (a : PhysAddr) (v : Byte) : (s.writePhys a v).start = s.start := rfl
@[simp] theorem State.writePhys_shadow (s : State) (a : PhysAddr) (v : Byte) : (s.writePhys a v).shadow = s.shadow := rfl
@[simp] theorem State.writePhys_raised (s : State) (a : PhysAddr) (v : Byte) : (s.writePhys a v).raised = s.raised := rfl
@[simp] theorem State.writePhys_queue (s : State) (a : PhysAddr) (v : Byte) : (s.writePhys a v).queue = if s.isMemory a && s.inWindow a.toNat then s.queue ++ [(a.toNat, s.memoryByte a)] else s.queue := rfl
@[simp] theorem State.writePhys_platform (s : State) (a : PhysAddr) (v : Byte) : (s.writePhys a v).platform = s.platform := rfl
@[simp] theorem State.writePhys_params (s : State) (a : PhysAddr) (v : Byte) : (s.writePhys a v).params = s.params := rfl
@[simp] theorem State.writePhys_bus (s : State) (a : PhysAddr) (v : Byte) : (s.writePhys a v).bus = s.bus := rfl
@[simp] theorem State.writePhys_fetches (s : State) (a : PhysAddr) (v : Byte) : (s.writePhys a v).fetches = s.fetches := rfl
@[simp] theorem State.writePhys_ahead (s : State) (a : PhysAddr) (v : Byte) : (s.writePhys a v).ahead = s.ahead := rfl
@[simp] theorem State.writePhys_draws (s : State) (a : PhysAddr) (v : Byte) : (s.writePhys a v).draws = s.draws := rfl
@[simp] theorem State.writePhys_isMemory (s : State) (a : PhysAddr) (v : Byte) (x : PhysAddr) : (s.writePhys a v).isMemory x = s.isMemory x := rfl
@[simp] theorem State.writePhys_lockOutput (s : State) (a : PhysAddr) (v : Byte) : (s.writePhys a v).lockOutput = s.lockOutput := rfl

@[simp] theorem State.writeByte_regs (s : State) (seg off : Word) (v : Byte) : (s.writeByte seg off v).regs = s.regs := rfl
@[simp] theorem State.writeByte_flags (s : State) (seg off : Word) (v : Byte) : (s.writeByte seg off v).flags = s.flags := rfl
@[simp] theorem State.writeByte_es (s : State) (seg off : Word) (v : Byte) : (s.writeByte seg off v).es = s.es := rfl
@[simp] theorem State.writeByte_cs (s : State) (seg off : Word) (v : Byte) : (s.writeByte seg off v).cs = s.cs := rfl
@[simp] theorem State.writeByte_ss (s : State) (seg off : Word) (v : Byte) : (s.writeByte seg off v).ss = s.ss := rfl
@[simp] theorem State.writeByte_ds (s : State) (seg off : Word) (v : Byte) : (s.writeByte seg off v).ds = s.ds := rfl
@[simp] theorem State.writeByte_ip (s : State) (seg off : Word) (v : Byte) : (s.writeByte seg off v).ip = s.ip := rfl
@[simp] theorem State.writeByte_mem (s : State) (seg off : Word) (v : Byte) : (s.writeByte seg off v).mem = (s.writePhys (physAddr seg off) v).mem := rfl
@[simp] theorem State.writeByte_halted (s : State) (seg off : Word) (v : Byte) : (s.writeByte seg off v).halted = s.halted := rfl
@[simp] theorem State.writeByte_pins (s : State) (seg off : Word) (v : Byte) : (s.writeByte seg off v).pins = s.pins := rfl
@[simp] theorem State.writeByte_pfx (s : State) (seg off : Word) (v : Byte) : (s.writeByte seg off v).pfx = s.pfx := rfl
@[simp] theorem State.writeByte_inProgress (s : State) (seg off : Word) (v : Byte) : (s.writeByte seg off v).inProgress = s.inProgress := rfl
@[simp] theorem State.writeByte_start (s : State) (seg off : Word) (v : Byte) : (s.writeByte seg off v).start = s.start := rfl
@[simp] theorem State.writeByte_shadow (s : State) (seg off : Word) (v : Byte) : (s.writeByte seg off v).shadow = s.shadow := rfl
@[simp] theorem State.writeByte_raised (s : State) (seg off : Word) (v : Byte) : (s.writeByte seg off v).raised = s.raised := rfl
@[simp] theorem State.writeByte_platform (s : State) (seg off : Word) (v : Byte) : (s.writeByte seg off v).platform = s.platform := rfl
@[simp] theorem State.writeByte_params (s : State) (seg off : Word) (v : Byte) : (s.writeByte seg off v).params = s.params := rfl
@[simp] theorem State.writeByte_bus (s : State) (seg off : Word) (v : Byte) : (s.writeByte seg off v).bus = s.byteCycles .write (physAddr seg off) v ++ s.bus := rfl
@[simp] theorem State.writeByte_fetches (s : State) (seg off : Word) (v : Byte) : (s.writeByte seg off v).fetches = s.fetches := rfl
@[simp] theorem State.writeByte_ahead (s : State) (seg off : Word) (v : Byte) : (s.writeByte seg off v).ahead = s.ahead := rfl
@[simp] theorem State.writeByte_draws (s : State) (seg off : Word) (v : Byte) : (s.writeByte seg off v).draws = s.draws := rfl
@[simp] theorem State.writeByte_isMemory (s : State) (seg off : Word) (v : Byte) (x : PhysAddr) : (s.writeByte seg off v).isMemory x = s.isMemory x := rfl
@[simp] theorem State.writeByte_lockOutput (s : State) (seg off : Word) (v : Byte) : (s.writeByte seg off v).lockOutput = s.lockOutput := rfl

@[simp] theorem State.writeWord_regs (s : State) (seg off v : Word) : (s.writeWord seg off v).regs = s.regs := rfl
@[simp] theorem State.writeWord_flags (s : State) (seg off v : Word) : (s.writeWord seg off v).flags = s.flags := rfl
@[simp] theorem State.writeWord_es (s : State) (seg off v : Word) : (s.writeWord seg off v).es = s.es := rfl
@[simp] theorem State.writeWord_cs (s : State) (seg off v : Word) : (s.writeWord seg off v).cs = s.cs := rfl
@[simp] theorem State.writeWord_ss (s : State) (seg off v : Word) : (s.writeWord seg off v).ss = s.ss := rfl
@[simp] theorem State.writeWord_ds (s : State) (seg off v : Word) : (s.writeWord seg off v).ds = s.ds := rfl
@[simp] theorem State.writeWord_ip (s : State) (seg off v : Word) : (s.writeWord seg off v).ip = s.ip := rfl
@[simp] theorem State.writeWord_mem (s : State) (seg off v : Word) : (s.writeWord seg off v).mem = ((s.writePhys (physAddr seg off) (lowByte v)).writePhys (highAddr seg off) (highByte v)).mem := rfl
@[simp] theorem State.writeWord_halted (s : State) (seg off v : Word) : (s.writeWord seg off v).halted = s.halted := rfl
@[simp] theorem State.writeWord_pins (s : State) (seg off v : Word) : (s.writeWord seg off v).pins = s.pins := rfl
@[simp] theorem State.writeWord_pfx (s : State) (seg off v : Word) : (s.writeWord seg off v).pfx = s.pfx := rfl
@[simp] theorem State.writeWord_inProgress (s : State) (seg off v : Word) : (s.writeWord seg off v).inProgress = s.inProgress := rfl
@[simp] theorem State.writeWord_start (s : State) (seg off v : Word) : (s.writeWord seg off v).start = s.start := rfl
@[simp] theorem State.writeWord_shadow (s : State) (seg off v : Word) : (s.writeWord seg off v).shadow = s.shadow := rfl
@[simp] theorem State.writeWord_raised (s : State) (seg off v : Word) : (s.writeWord seg off v).raised = s.raised := rfl
@[simp] theorem State.writeWord_platform (s : State) (seg off v : Word) : (s.writeWord seg off v).platform = s.platform := rfl
@[simp] theorem State.writeWord_params (s : State) (seg off v : Word) : (s.writeWord seg off v).params = s.params := rfl
@[simp] theorem State.writeWord_bus (s : State) (seg off v : Word) : (s.writeWord seg off v).bus = s.wordCycles .write seg off v ++ s.bus := rfl
@[simp] theorem State.writeWord_fetches (s : State) (seg off v : Word) : (s.writeWord seg off v).fetches = s.fetches := rfl
@[simp] theorem State.writeWord_ahead (s : State) (seg off v : Word) : (s.writeWord seg off v).ahead = s.ahead := rfl
@[simp] theorem State.writeWord_draws (s : State) (seg off v : Word) : (s.writeWord seg off v).draws = s.draws := rfl
@[simp] theorem State.writeWord_isMemory (s : State) (seg off v : Word) (x : PhysAddr) : (s.writeWord seg off v).isMemory x = s.isMemory x := rfl
@[simp] theorem State.writeWord_lockOutput (s : State) (seg off v : Word) : (s.writeWord seg off v).lockOutput = s.lockOutput := rfl

@[simp] theorem State.put8_flags (s : State) (l : Loc8) (v : Byte) : (s.put8 l v).flags = s.flags := by cases l <;> rfl
@[simp] theorem State.put8_es (s : State) (l : Loc8) (v : Byte) : (s.put8 l v).es = s.es := by cases l <;> rfl
@[simp] theorem State.put8_cs (s : State) (l : Loc8) (v : Byte) : (s.put8 l v).cs = s.cs := by cases l <;> rfl
@[simp] theorem State.put8_ss (s : State) (l : Loc8) (v : Byte) : (s.put8 l v).ss = s.ss := by cases l <;> rfl
@[simp] theorem State.put8_ds (s : State) (l : Loc8) (v : Byte) : (s.put8 l v).ds = s.ds := by cases l <;> rfl
@[simp] theorem State.put8_ip (s : State) (l : Loc8) (v : Byte) : (s.put8 l v).ip = s.ip := by cases l <;> rfl
@[simp] theorem State.put8_halted (s : State) (l : Loc8) (v : Byte) : (s.put8 l v).halted = s.halted := by cases l <;> rfl
@[simp] theorem State.put8_pins (s : State) (l : Loc8) (v : Byte) : (s.put8 l v).pins = s.pins := by cases l <;> rfl
@[simp] theorem State.put8_pfx (s : State) (l : Loc8) (v : Byte) : (s.put8 l v).pfx = s.pfx := by cases l <;> rfl
@[simp] theorem State.put8_inProgress (s : State) (l : Loc8) (v : Byte) : (s.put8 l v).inProgress = s.inProgress := by cases l <;> rfl
@[simp] theorem State.put8_start (s : State) (l : Loc8) (v : Byte) : (s.put8 l v).start = s.start := by cases l <;> rfl
@[simp] theorem State.put8_shadow (s : State) (l : Loc8) (v : Byte) : (s.put8 l v).shadow = s.shadow := by cases l <;> rfl
@[simp] theorem State.put8_raised (s : State) (l : Loc8) (v : Byte) : (s.put8 l v).raised = s.raised := by cases l <;> rfl
@[simp] theorem State.put8_platform (s : State) (l : Loc8) (v : Byte) : (s.put8 l v).platform = s.platform := by cases l <;> rfl
@[simp] theorem State.put8_params (s : State) (l : Loc8) (v : Byte) : (s.put8 l v).params = s.params := by cases l <;> rfl
@[simp] theorem State.put8_fetches (s : State) (l : Loc8) (v : Byte) : (s.put8 l v).fetches = s.fetches := by cases l <;> rfl
@[simp] theorem State.put8_ahead (s : State) (l : Loc8) (v : Byte) : (s.put8 l v).ahead = s.ahead := by cases l <;> rfl
@[simp] theorem State.put8_draws (s : State) (l : Loc8) (v : Byte) : (s.put8 l v).draws = s.draws := by cases l <;> rfl
@[simp] theorem State.put8_isMemory (s : State) (l : Loc8) (v : Byte) (x : PhysAddr) : (s.put8 l v).isMemory x = s.isMemory x := by cases l <;> rfl
@[simp] theorem State.put8_lockOutput (s : State) (l : Loc8) (v : Byte) : (s.put8 l v).lockOutput = s.lockOutput := by cases l <;> rfl

@[simp] theorem State.put16_flags (s : State) (l : Loc16) (v : Word) : (s.put16 l v).flags = s.flags := by cases l <;> rfl
@[simp] theorem State.put16_es (s : State) (l : Loc16) (v : Word) : (s.put16 l v).es = s.es := by cases l <;> rfl
@[simp] theorem State.put16_cs (s : State) (l : Loc16) (v : Word) : (s.put16 l v).cs = s.cs := by cases l <;> rfl
@[simp] theorem State.put16_ss (s : State) (l : Loc16) (v : Word) : (s.put16 l v).ss = s.ss := by cases l <;> rfl
@[simp] theorem State.put16_ds (s : State) (l : Loc16) (v : Word) : (s.put16 l v).ds = s.ds := by cases l <;> rfl
@[simp] theorem State.put16_ip (s : State) (l : Loc16) (v : Word) : (s.put16 l v).ip = s.ip := by cases l <;> rfl
@[simp] theorem State.put16_halted (s : State) (l : Loc16) (v : Word) : (s.put16 l v).halted = s.halted := by cases l <;> rfl
@[simp] theorem State.put16_pins (s : State) (l : Loc16) (v : Word) : (s.put16 l v).pins = s.pins := by cases l <;> rfl
@[simp] theorem State.put16_pfx (s : State) (l : Loc16) (v : Word) : (s.put16 l v).pfx = s.pfx := by cases l <;> rfl
@[simp] theorem State.put16_inProgress (s : State) (l : Loc16) (v : Word) : (s.put16 l v).inProgress = s.inProgress := by cases l <;> rfl
@[simp] theorem State.put16_start (s : State) (l : Loc16) (v : Word) : (s.put16 l v).start = s.start := by cases l <;> rfl
@[simp] theorem State.put16_shadow (s : State) (l : Loc16) (v : Word) : (s.put16 l v).shadow = s.shadow := by cases l <;> rfl
@[simp] theorem State.put16_raised (s : State) (l : Loc16) (v : Word) : (s.put16 l v).raised = s.raised := by cases l <;> rfl
@[simp] theorem State.put16_platform (s : State) (l : Loc16) (v : Word) : (s.put16 l v).platform = s.platform := by cases l <;> rfl
@[simp] theorem State.put16_params (s : State) (l : Loc16) (v : Word) : (s.put16 l v).params = s.params := by cases l <;> rfl
@[simp] theorem State.put16_fetches (s : State) (l : Loc16) (v : Word) : (s.put16 l v).fetches = s.fetches := by cases l <;> rfl
@[simp] theorem State.put16_ahead (s : State) (l : Loc16) (v : Word) : (s.put16 l v).ahead = s.ahead := by cases l <;> rfl
@[simp] theorem State.put16_draws (s : State) (l : Loc16) (v : Word) : (s.put16 l v).draws = s.draws := by cases l <;> rfl
@[simp] theorem State.put16_isMemory (s : State) (l : Loc16) (v : Word) (x : PhysAddr) : (s.put16 l v).isMemory x = s.isMemory x := by cases l <;> rfl
@[simp] theorem State.put16_lockOutput (s : State) (l : Loc16) (v : Word) : (s.put16 l v).lockOutput = s.lockOutput := by cases l <;> rfl

@[simp] theorem State.push_regs (s : State) (v : Word) : (s.push v).regs = s.regs.set16 .sp s.pushOffset := rfl
@[simp] theorem State.push_flags (s : State) (v : Word) : (s.push v).flags = s.flags := rfl
@[simp] theorem State.push_es (s : State) (v : Word) : (s.push v).es = s.es := rfl
@[simp] theorem State.push_cs (s : State) (v : Word) : (s.push v).cs = s.cs := rfl
@[simp] theorem State.push_ss (s : State) (v : Word) : (s.push v).ss = s.ss := rfl
@[simp] theorem State.push_ds (s : State) (v : Word) : (s.push v).ds = s.ds := rfl
@[simp] theorem State.push_ip (s : State) (v : Word) : (s.push v).ip = s.ip := rfl
@[simp] theorem State.push_mem (s : State) (v : Word) : (s.push v).mem = (s.writeWord s.ss s.pushOffset v).mem := rfl
@[simp] theorem State.push_halted (s : State) (v : Word) : (s.push v).halted = s.halted := rfl
@[simp] theorem State.push_pins (s : State) (v : Word) : (s.push v).pins = s.pins := rfl
@[simp] theorem State.push_pfx (s : State) (v : Word) : (s.push v).pfx = s.pfx := rfl
@[simp] theorem State.push_inProgress (s : State) (v : Word) : (s.push v).inProgress = s.inProgress := rfl
@[simp] theorem State.push_start (s : State) (v : Word) : (s.push v).start = s.start := rfl
@[simp] theorem State.push_shadow (s : State) (v : Word) : (s.push v).shadow = s.shadow := rfl
@[simp] theorem State.push_raised (s : State) (v : Word) : (s.push v).raised = s.raised := rfl
@[simp] theorem State.push_platform (s : State) (v : Word) : (s.push v).platform = s.platform := rfl
@[simp] theorem State.push_params (s : State) (v : Word) : (s.push v).params = s.params := rfl
@[simp] theorem State.push_bus (s : State) (v : Word) : (s.push v).bus = s.wordCycles .write s.ss s.pushOffset v ++ s.bus := rfl
@[simp] theorem State.push_fetches (s : State) (v : Word) : (s.push v).fetches = s.fetches := rfl
@[simp] theorem State.push_ahead (s : State) (v : Word) : (s.push v).ahead = s.ahead := rfl
@[simp] theorem State.push_draws (s : State) (v : Word) : (s.push v).draws = s.draws := rfl
@[simp] theorem State.push_isMemory (s : State) (v : Word) (x : PhysAddr) : (s.push v).isMemory x = s.isMemory x := rfl
@[simp] theorem State.push_lockOutput (s : State) (v : Word) : (s.push v).lockOutput = s.lockOutput := rfl

@[simp] theorem State.popped_regs (s : State) : (s.popped).regs = s.regs.set16 .sp (s.regs.sp + 2) := rfl
@[simp] theorem State.popped_flags (s : State) : (s.popped).flags = s.flags := rfl
@[simp] theorem State.popped_es (s : State) : (s.popped).es = s.es := rfl
@[simp] theorem State.popped_cs (s : State) : (s.popped).cs = s.cs := rfl
@[simp] theorem State.popped_ss (s : State) : (s.popped).ss = s.ss := rfl
@[simp] theorem State.popped_ds (s : State) : (s.popped).ds = s.ds := rfl
@[simp] theorem State.popped_ip (s : State) : (s.popped).ip = s.ip := rfl
@[simp] theorem State.popped_mem (s : State) : (s.popped).mem = s.mem := rfl
@[simp] theorem State.popped_halted (s : State) : (s.popped).halted = s.halted := rfl
@[simp] theorem State.popped_pins (s : State) : (s.popped).pins = s.pins := rfl
@[simp] theorem State.popped_pfx (s : State) : (s.popped).pfx = s.pfx := rfl
@[simp] theorem State.popped_inProgress (s : State) : (s.popped).inProgress = s.inProgress := rfl
@[simp] theorem State.popped_start (s : State) : (s.popped).start = s.start := rfl
@[simp] theorem State.popped_shadow (s : State) : (s.popped).shadow = s.shadow := rfl
@[simp] theorem State.popped_raised (s : State) : (s.popped).raised = s.raised := rfl
@[simp] theorem State.popped_queue (s : State) : (s.popped).queue = s.queue := rfl
@[simp] theorem State.popped_platform (s : State) : (s.popped).platform = s.platform := rfl
@[simp] theorem State.popped_params (s : State) : (s.popped).params = s.params := rfl
@[simp] theorem State.popped_bus (s : State) : (s.popped).bus = s.wordCycles .read s.ss s.regs.sp s.top ++ s.bus := rfl
@[simp] theorem State.popped_fetches (s : State) : (s.popped).fetches = s.fetches := rfl
@[simp] theorem State.popped_ahead (s : State) : (s.popped).ahead = s.ahead := rfl
@[simp] theorem State.popped_draws (s : State) : (s.popped).draws = s.draws := rfl
@[simp] theorem State.popped_isMemory (s : State) (x : PhysAddr) : (s.popped).isMemory x = s.isMemory x := rfl
@[simp] theorem State.popped_lockOutput (s : State) : (s.popped).lockOutput = s.lockOutput := rfl
@[simp] theorem State.popped_memoryByte (s : State) (x : PhysAddr) : (s.popped).memoryByte x = s.memoryByte x := rfl

@[simp] theorem State.jumpNear_regs (s : State) (o : Word) : (s.jumpNear o).regs = s.regs := rfl
@[simp] theorem State.jumpNear_flags (s : State) (o : Word) : (s.jumpNear o).flags = s.flags := rfl
@[simp] theorem State.jumpNear_es (s : State) (o : Word) : (s.jumpNear o).es = s.es := rfl
@[simp] theorem State.jumpNear_cs (s : State) (o : Word) : (s.jumpNear o).cs = s.cs := rfl
@[simp] theorem State.jumpNear_ss (s : State) (o : Word) : (s.jumpNear o).ss = s.ss := rfl
@[simp] theorem State.jumpNear_ds (s : State) (o : Word) : (s.jumpNear o).ds = s.ds := rfl
@[simp] theorem State.jumpNear_ip (s : State) (o : Word) : (s.jumpNear o).ip = o := rfl
@[simp] theorem State.jumpNear_mem (s : State) (o : Word) : (s.jumpNear o).mem = s.mem := rfl
@[simp] theorem State.jumpNear_halted (s : State) (o : Word) : (s.jumpNear o).halted = s.halted := rfl
@[simp] theorem State.jumpNear_pins (s : State) (o : Word) : (s.jumpNear o).pins = s.pins := rfl
@[simp] theorem State.jumpNear_pfx (s : State) (o : Word) : (s.jumpNear o).pfx = s.pfx := rfl
@[simp] theorem State.jumpNear_inProgress (s : State) (o : Word) : (s.jumpNear o).inProgress = s.inProgress := rfl
@[simp] theorem State.jumpNear_start (s : State) (o : Word) : (s.jumpNear o).start = s.start := rfl
@[simp] theorem State.jumpNear_shadow (s : State) (o : Word) : (s.jumpNear o).shadow = s.shadow := rfl
@[simp] theorem State.jumpNear_raised (s : State) (o : Word) : (s.jumpNear o).raised = s.raised := rfl
@[simp] theorem State.jumpNear_queue (s : State) (o : Word) : (s.jumpNear o).queue = [] := rfl
@[simp] theorem State.jumpNear_platform (s : State) (o : Word) : (s.jumpNear o).platform = s.platform := rfl
@[simp] theorem State.jumpNear_params (s : State) (o : Word) : (s.jumpNear o).params = s.params := rfl
@[simp] theorem State.jumpNear_bus (s : State) (o : Word) : (s.jumpNear o).bus = s.bus := rfl
@[simp] theorem State.jumpNear_fetches (s : State) (o : Word) : (s.jumpNear o).fetches = s.fetches := rfl
@[simp] theorem State.jumpNear_ahead (s : State) (o : Word) : (s.jumpNear o).ahead = 0 := rfl
@[simp] theorem State.jumpNear_draws (s : State) (o : Word) : (s.jumpNear o).draws = s.draws := rfl
@[simp] theorem State.jumpNear_isMemory (s : State) (o : Word) (x : PhysAddr) : (s.jumpNear o).isMemory x = s.isMemory x := rfl
@[simp] theorem State.jumpNear_lockOutput (s : State) (o : Word) : (s.jumpNear o).lockOutput = s.lockOutput := rfl
@[simp] theorem State.jumpNear_memoryByte (s : State) (o : Word) (x : PhysAddr) : (s.jumpNear o).memoryByte x = s.memoryByte x := rfl

@[simp] theorem State.jumpFar_regs (s : State) (seg o : Word) : (s.jumpFar seg o).regs = s.regs := rfl
@[simp] theorem State.jumpFar_flags (s : State) (seg o : Word) : (s.jumpFar seg o).flags = s.flags := rfl
@[simp] theorem State.jumpFar_es (s : State) (seg o : Word) : (s.jumpFar seg o).es = s.es := rfl
@[simp] theorem State.jumpFar_cs (s : State) (seg o : Word) : (s.jumpFar seg o).cs = seg := rfl
@[simp] theorem State.jumpFar_ss (s : State) (seg o : Word) : (s.jumpFar seg o).ss = s.ss := rfl
@[simp] theorem State.jumpFar_ds (s : State) (seg o : Word) : (s.jumpFar seg o).ds = s.ds := rfl
@[simp] theorem State.jumpFar_ip (s : State) (seg o : Word) : (s.jumpFar seg o).ip = o := rfl
@[simp] theorem State.jumpFar_mem (s : State) (seg o : Word) : (s.jumpFar seg o).mem = s.mem := rfl
@[simp] theorem State.jumpFar_halted (s : State) (seg o : Word) : (s.jumpFar seg o).halted = s.halted := rfl
@[simp] theorem State.jumpFar_pins (s : State) (seg o : Word) : (s.jumpFar seg o).pins = s.pins := rfl
@[simp] theorem State.jumpFar_pfx (s : State) (seg o : Word) : (s.jumpFar seg o).pfx = s.pfx := rfl
@[simp] theorem State.jumpFar_inProgress (s : State) (seg o : Word) : (s.jumpFar seg o).inProgress = s.inProgress := rfl
@[simp] theorem State.jumpFar_start (s : State) (seg o : Word) : (s.jumpFar seg o).start = s.start := rfl
@[simp] theorem State.jumpFar_shadow (s : State) (seg o : Word) : (s.jumpFar seg o).shadow = s.shadow := rfl
@[simp] theorem State.jumpFar_raised (s : State) (seg o : Word) : (s.jumpFar seg o).raised = s.raised := rfl
@[simp] theorem State.jumpFar_queue (s : State) (seg o : Word) : (s.jumpFar seg o).queue = [] := rfl
@[simp] theorem State.jumpFar_platform (s : State) (seg o : Word) : (s.jumpFar seg o).platform = s.platform := rfl
@[simp] theorem State.jumpFar_params (s : State) (seg o : Word) : (s.jumpFar seg o).params = s.params := rfl
@[simp] theorem State.jumpFar_bus (s : State) (seg o : Word) : (s.jumpFar seg o).bus = s.bus := rfl
@[simp] theorem State.jumpFar_fetches (s : State) (seg o : Word) : (s.jumpFar seg o).fetches = s.fetches := rfl
@[simp] theorem State.jumpFar_ahead (s : State) (seg o : Word) : (s.jumpFar seg o).ahead = 0 := rfl
@[simp] theorem State.jumpFar_draws (s : State) (seg o : Word) : (s.jumpFar seg o).draws = s.draws := rfl
@[simp] theorem State.jumpFar_isMemory (s : State) (seg o : Word) (x : PhysAddr) : (s.jumpFar seg o).isMemory x = s.isMemory x := rfl
@[simp] theorem State.jumpFar_lockOutput (s : State) (seg o : Word) : (s.jumpFar seg o).lockOutput = s.lockOutput := rfl
@[simp] theorem State.jumpFar_memoryByte (s : State) (seg o : Word) (x : PhysAddr) : (s.jumpFar seg o).memoryByte x = s.memoryByte x := rfl

@[simp] theorem State.notePort8_regs (s : State) (p : Word) : (s.notePort8 p).regs = s.regs := rfl
@[simp] theorem State.notePort8_flags (s : State) (p : Word) : (s.notePort8 p).flags = s.flags := rfl
@[simp] theorem State.notePort8_es (s : State) (p : Word) : (s.notePort8 p).es = s.es := rfl
@[simp] theorem State.notePort8_cs (s : State) (p : Word) : (s.notePort8 p).cs = s.cs := rfl
@[simp] theorem State.notePort8_ss (s : State) (p : Word) : (s.notePort8 p).ss = s.ss := rfl
@[simp] theorem State.notePort8_ds (s : State) (p : Word) : (s.notePort8 p).ds = s.ds := rfl
@[simp] theorem State.notePort8_ip (s : State) (p : Word) : (s.notePort8 p).ip = s.ip := rfl
@[simp] theorem State.notePort8_mem (s : State) (p : Word) : (s.notePort8 p).mem = s.mem := rfl
@[simp] theorem State.notePort8_halted (s : State) (p : Word) : (s.notePort8 p).halted = s.halted := rfl
@[simp] theorem State.notePort8_pins (s : State) (p : Word) : (s.notePort8 p).pins = s.pins := rfl
@[simp] theorem State.notePort8_pfx (s : State) (p : Word) : (s.notePort8 p).pfx = s.pfx := rfl
@[simp] theorem State.notePort8_inProgress (s : State) (p : Word) : (s.notePort8 p).inProgress = s.inProgress := rfl
@[simp] theorem State.notePort8_start (s : State) (p : Word) : (s.notePort8 p).start = s.start := rfl
@[simp] theorem State.notePort8_shadow (s : State) (p : Word) : (s.notePort8 p).shadow = s.shadow := rfl
@[simp] theorem State.notePort8_raised (s : State) (p : Word) : (s.notePort8 p).raised = s.raised := rfl
@[simp] theorem State.notePort8_queue (s : State) (p : Word) : (s.notePort8 p).queue = s.queue := rfl
@[simp] theorem State.notePort8_platform (s : State) (p : Word) : (s.notePort8 p).platform = s.platform := rfl
@[simp] theorem State.notePort8_params (s : State) (p : Word) : (s.notePort8 p).params = s.params := rfl
@[simp] theorem State.notePort8_bus (s : State) (p : Word) : (s.notePort8 p).bus = s.portCycles8 .read p (s.portIn8 p) ++ s.bus := rfl
@[simp] theorem State.notePort8_fetches (s : State) (p : Word) : (s.notePort8 p).fetches = s.fetches := rfl
@[simp] theorem State.notePort8_ahead (s : State) (p : Word) : (s.notePort8 p).ahead = s.ahead := rfl
@[simp] theorem State.notePort8_draws (s : State) (p : Word) : (s.notePort8 p).draws = s.draws := rfl
@[simp] theorem State.notePort8_isMemory (s : State) (p : Word) (x : PhysAddr) : (s.notePort8 p).isMemory x = s.isMemory x := rfl
@[simp] theorem State.notePort8_lockOutput (s : State) (p : Word) : (s.notePort8 p).lockOutput = s.lockOutput := rfl
@[simp] theorem State.notePort8_memoryByte (s : State) (p : Word) (x : PhysAddr) : (s.notePort8 p).memoryByte x = s.memoryByte x := rfl

@[simp] theorem State.notePort16_regs (s : State) (p : Word) : (s.notePort16 p).regs = s.regs := rfl
@[simp] theorem State.notePort16_flags (s : State) (p : Word) : (s.notePort16 p).flags = s.flags := rfl
@[simp] theorem State.notePort16_es (s : State) (p : Word) : (s.notePort16 p).es = s.es := rfl
@[simp] theorem State.notePort16_cs (s : State) (p : Word) : (s.notePort16 p).cs = s.cs := rfl
@[simp] theorem State.notePort16_ss (s : State) (p : Word) : (s.notePort16 p).ss = s.ss := rfl
@[simp] theorem State.notePort16_ds (s : State) (p : Word) : (s.notePort16 p).ds = s.ds := rfl
@[simp] theorem State.notePort16_ip (s : State) (p : Word) : (s.notePort16 p).ip = s.ip := rfl
@[simp] theorem State.notePort16_mem (s : State) (p : Word) : (s.notePort16 p).mem = s.mem := rfl
@[simp] theorem State.notePort16_halted (s : State) (p : Word) : (s.notePort16 p).halted = s.halted := rfl
@[simp] theorem State.notePort16_pins (s : State) (p : Word) : (s.notePort16 p).pins = s.pins := rfl
@[simp] theorem State.notePort16_pfx (s : State) (p : Word) : (s.notePort16 p).pfx = s.pfx := rfl
@[simp] theorem State.notePort16_inProgress (s : State) (p : Word) : (s.notePort16 p).inProgress = s.inProgress := rfl
@[simp] theorem State.notePort16_start (s : State) (p : Word) : (s.notePort16 p).start = s.start := rfl
@[simp] theorem State.notePort16_shadow (s : State) (p : Word) : (s.notePort16 p).shadow = s.shadow := rfl
@[simp] theorem State.notePort16_raised (s : State) (p : Word) : (s.notePort16 p).raised = s.raised := rfl
@[simp] theorem State.notePort16_queue (s : State) (p : Word) : (s.notePort16 p).queue = s.queue := rfl
@[simp] theorem State.notePort16_platform (s : State) (p : Word) : (s.notePort16 p).platform = s.platform := rfl
@[simp] theorem State.notePort16_params (s : State) (p : Word) : (s.notePort16 p).params = s.params := rfl
@[simp] theorem State.notePort16_bus (s : State) (p : Word) : (s.notePort16 p).bus = s.portCycles16 .read p (s.portIn16 p) ++ s.bus := rfl
@[simp] theorem State.notePort16_fetches (s : State) (p : Word) : (s.notePort16 p).fetches = s.fetches := rfl
@[simp] theorem State.notePort16_ahead (s : State) (p : Word) : (s.notePort16 p).ahead = s.ahead := rfl
@[simp] theorem State.notePort16_draws (s : State) (p : Word) : (s.notePort16 p).draws = s.draws := rfl
@[simp] theorem State.notePort16_isMemory (s : State) (p : Word) (x : PhysAddr) : (s.notePort16 p).isMemory x = s.isMemory x := rfl
@[simp] theorem State.notePort16_lockOutput (s : State) (p : Word) : (s.notePort16 p).lockOutput = s.lockOutput := rfl
@[simp] theorem State.notePort16_memoryByte (s : State) (p : Word) (x : PhysAddr) : (s.notePort16 p).memoryByte x = s.memoryByte x := rfl

@[simp] theorem State.portOut8_regs (s : State) (p : Word) (v : Byte) : (s.portOut8 p v).regs = s.regs := rfl
@[simp] theorem State.portOut8_flags (s : State) (p : Word) (v : Byte) : (s.portOut8 p v).flags = s.flags := rfl
@[simp] theorem State.portOut8_es (s : State) (p : Word) (v : Byte) : (s.portOut8 p v).es = s.es := rfl
@[simp] theorem State.portOut8_cs (s : State) (p : Word) (v : Byte) : (s.portOut8 p v).cs = s.cs := rfl
@[simp] theorem State.portOut8_ss (s : State) (p : Word) (v : Byte) : (s.portOut8 p v).ss = s.ss := rfl
@[simp] theorem State.portOut8_ds (s : State) (p : Word) (v : Byte) : (s.portOut8 p v).ds = s.ds := rfl
@[simp] theorem State.portOut8_ip (s : State) (p : Word) (v : Byte) : (s.portOut8 p v).ip = s.ip := rfl
@[simp] theorem State.portOut8_mem (s : State) (p : Word) (v : Byte) : (s.portOut8 p v).mem = s.mem := rfl
@[simp] theorem State.portOut8_halted (s : State) (p : Word) (v : Byte) : (s.portOut8 p v).halted = s.halted := rfl
@[simp] theorem State.portOut8_pins (s : State) (p : Word) (v : Byte) : (s.portOut8 p v).pins = s.pins := rfl
@[simp] theorem State.portOut8_pfx (s : State) (p : Word) (v : Byte) : (s.portOut8 p v).pfx = s.pfx := rfl
@[simp] theorem State.portOut8_inProgress (s : State) (p : Word) (v : Byte) : (s.portOut8 p v).inProgress = s.inProgress := rfl
@[simp] theorem State.portOut8_start (s : State) (p : Word) (v : Byte) : (s.portOut8 p v).start = s.start := rfl
@[simp] theorem State.portOut8_shadow (s : State) (p : Word) (v : Byte) : (s.portOut8 p v).shadow = s.shadow := rfl
@[simp] theorem State.portOut8_raised (s : State) (p : Word) (v : Byte) : (s.portOut8 p v).raised = s.raised := rfl
@[simp] theorem State.portOut8_queue (s : State) (p : Word) (v : Byte) : (s.portOut8 p v).queue = s.queue := rfl
@[simp] theorem State.portOut8_platform (s : State) (p : Word) (v : Byte) : (s.portOut8 p v).platform = s.platform := rfl
@[simp] theorem State.portOut8_params (s : State) (p : Word) (v : Byte) : (s.portOut8 p v).params = s.params := rfl
@[simp] theorem State.portOut8_bus (s : State) (p : Word) (v : Byte) : (s.portOut8 p v).bus = s.portCycles8 .write p v ++ s.bus := rfl
@[simp] theorem State.portOut8_fetches (s : State) (p : Word) (v : Byte) : (s.portOut8 p v).fetches = s.fetches := rfl
@[simp] theorem State.portOut8_ahead (s : State) (p : Word) (v : Byte) : (s.portOut8 p v).ahead = s.ahead := rfl
@[simp] theorem State.portOut8_draws (s : State) (p : Word) (v : Byte) : (s.portOut8 p v).draws = s.draws := rfl
@[simp] theorem State.portOut8_isMemory (s : State) (p : Word) (v : Byte) (x : PhysAddr) : (s.portOut8 p v).isMemory x = s.isMemory x := rfl
@[simp] theorem State.portOut8_lockOutput (s : State) (p : Word) (v : Byte) : (s.portOut8 p v).lockOutput = s.lockOutput := rfl
@[simp] theorem State.portOut8_memoryByte (s : State) (p : Word) (v : Byte) (x : PhysAddr) : (s.portOut8 p v).memoryByte x = s.memoryByte x := rfl

@[simp] theorem State.portOut16_regs (s : State) (p v : Word) : (s.portOut16 p v).regs = s.regs := rfl
@[simp] theorem State.portOut16_flags (s : State) (p v : Word) : (s.portOut16 p v).flags = s.flags := rfl
@[simp] theorem State.portOut16_es (s : State) (p v : Word) : (s.portOut16 p v).es = s.es := rfl
@[simp] theorem State.portOut16_cs (s : State) (p v : Word) : (s.portOut16 p v).cs = s.cs := rfl
@[simp] theorem State.portOut16_ss (s : State) (p v : Word) : (s.portOut16 p v).ss = s.ss := rfl
@[simp] theorem State.portOut16_ds (s : State) (p v : Word) : (s.portOut16 p v).ds = s.ds := rfl
@[simp] theorem State.portOut16_ip (s : State) (p v : Word) : (s.portOut16 p v).ip = s.ip := rfl
@[simp] theorem State.portOut16_mem (s : State) (p v : Word) : (s.portOut16 p v).mem = s.mem := rfl
@[simp] theorem State.portOut16_halted (s : State) (p v : Word) : (s.portOut16 p v).halted = s.halted := rfl
@[simp] theorem State.portOut16_pins (s : State) (p v : Word) : (s.portOut16 p v).pins = s.pins := rfl
@[simp] theorem State.portOut16_pfx (s : State) (p v : Word) : (s.portOut16 p v).pfx = s.pfx := rfl
@[simp] theorem State.portOut16_inProgress (s : State) (p v : Word) : (s.portOut16 p v).inProgress = s.inProgress := rfl
@[simp] theorem State.portOut16_start (s : State) (p v : Word) : (s.portOut16 p v).start = s.start := rfl
@[simp] theorem State.portOut16_shadow (s : State) (p v : Word) : (s.portOut16 p v).shadow = s.shadow := rfl
@[simp] theorem State.portOut16_raised (s : State) (p v : Word) : (s.portOut16 p v).raised = s.raised := rfl
@[simp] theorem State.portOut16_queue (s : State) (p v : Word) : (s.portOut16 p v).queue = s.queue := rfl
@[simp] theorem State.portOut16_platform (s : State) (p v : Word) : (s.portOut16 p v).platform = s.platform := rfl
@[simp] theorem State.portOut16_params (s : State) (p v : Word) : (s.portOut16 p v).params = s.params := rfl
@[simp] theorem State.portOut16_bus (s : State) (p v : Word) : (s.portOut16 p v).bus = s.portCycles16 .write p v ++ s.bus := rfl
@[simp] theorem State.portOut16_fetches (s : State) (p v : Word) : (s.portOut16 p v).fetches = s.fetches := rfl
@[simp] theorem State.portOut16_ahead (s : State) (p v : Word) : (s.portOut16 p v).ahead = s.ahead := rfl
@[simp] theorem State.portOut16_draws (s : State) (p v : Word) : (s.portOut16 p v).draws = s.draws := rfl
@[simp] theorem State.portOut16_isMemory (s : State) (p v : Word) (x : PhysAddr) : (s.portOut16 p v).isMemory x = s.isMemory x := rfl
@[simp] theorem State.portOut16_lockOutput (s : State) (p v : Word) : (s.portOut16 p v).lockOutput = s.lockOutput := rfl
@[simp] theorem State.portOut16_memoryByte (s : State) (p v : Word) (x : PhysAddr) : (s.portOut16 p v).memoryByte x = s.memoryByte x := rfl

@[simp] theorem State.acknowledged_regs (s : State) : (s.acknowledged).regs = s.regs := rfl
@[simp] theorem State.acknowledged_flags (s : State) : (s.acknowledged).flags = s.flags := rfl
@[simp] theorem State.acknowledged_es (s : State) : (s.acknowledged).es = s.es := rfl
@[simp] theorem State.acknowledged_cs (s : State) : (s.acknowledged).cs = s.cs := rfl
@[simp] theorem State.acknowledged_ss (s : State) : (s.acknowledged).ss = s.ss := rfl
@[simp] theorem State.acknowledged_ds (s : State) : (s.acknowledged).ds = s.ds := rfl
@[simp] theorem State.acknowledged_ip (s : State) : (s.acknowledged).ip = s.ip := rfl
@[simp] theorem State.acknowledged_mem (s : State) : (s.acknowledged).mem = s.mem := rfl
@[simp] theorem State.acknowledged_halted (s : State) : (s.acknowledged).halted = s.halted := rfl
@[simp] theorem State.acknowledged_pins (s : State) : (s.acknowledged).pins = s.pins := rfl
@[simp] theorem State.acknowledged_pfx (s : State) : (s.acknowledged).pfx = s.pfx := rfl
@[simp] theorem State.acknowledged_inProgress (s : State) : (s.acknowledged).inProgress = s.inProgress := rfl
@[simp] theorem State.acknowledged_start (s : State) : (s.acknowledged).start = s.start := rfl
@[simp] theorem State.acknowledged_shadow (s : State) : (s.acknowledged).shadow = s.shadow := rfl
@[simp] theorem State.acknowledged_raised (s : State) : (s.acknowledged).raised = s.raised := rfl
@[simp] theorem State.acknowledged_queue (s : State) : (s.acknowledged).queue = s.queue := rfl
@[simp] theorem State.acknowledged_platform (s : State) : (s.acknowledged).platform = s.platform := rfl
@[simp] theorem State.acknowledged_params (s : State) : (s.acknowledged).params = s.params := rfl
@[simp] theorem State.acknowledged_fetches (s : State) : (s.acknowledged).fetches = s.fetches := rfl
@[simp] theorem State.acknowledged_ahead (s : State) : (s.acknowledged).ahead = s.ahead := rfl
@[simp] theorem State.acknowledged_draws (s : State) : (s.acknowledged).draws = s.draws := rfl
@[simp] theorem State.acknowledged_isMemory (s : State) (x : PhysAddr) : (s.acknowledged).isMemory x = s.isMemory x := rfl
@[simp] theorem State.acknowledged_lockOutput (s : State) : (s.acknowledged).lockOutput = s.lockOutput := rfl
@[simp] theorem State.acknowledged_memoryByte (s : State) (x : PhysAddr) : (s.acknowledged).memoryByte x = s.memoryByte x := rfl

@[simp] theorem State.pushFlags_regs (s : State) : (s.pushFlags).regs = s.regs.set16 .sp s.pushOffset := rfl
@[simp] theorem State.pushFlags_flags (s : State) : (s.pushFlags).flags = s.flags := rfl
@[simp] theorem State.pushFlags_es (s : State) : (s.pushFlags).es = s.es := rfl
@[simp] theorem State.pushFlags_cs (s : State) : (s.pushFlags).cs = s.cs := rfl
@[simp] theorem State.pushFlags_ss (s : State) : (s.pushFlags).ss = s.ss := rfl
@[simp] theorem State.pushFlags_ds (s : State) : (s.pushFlags).ds = s.ds := rfl
@[simp] theorem State.pushFlags_ip (s : State) : (s.pushFlags).ip = s.ip := rfl
@[simp] theorem State.pushFlags_mem (s : State) : (s.pushFlags).mem = (s.push (s.flags.image (s.drawWord 0))).mem := rfl
@[simp] theorem State.pushFlags_halted (s : State) : (s.pushFlags).halted = s.halted := rfl
@[simp] theorem State.pushFlags_pins (s : State) : (s.pushFlags).pins = s.pins := rfl
@[simp] theorem State.pushFlags_pfx (s : State) : (s.pushFlags).pfx = s.pfx := rfl
@[simp] theorem State.pushFlags_inProgress (s : State) : (s.pushFlags).inProgress = s.inProgress := rfl
@[simp] theorem State.pushFlags_start (s : State) : (s.pushFlags).start = s.start := rfl
@[simp] theorem State.pushFlags_shadow (s : State) : (s.pushFlags).shadow = s.shadow := rfl
@[simp] theorem State.pushFlags_raised (s : State) : (s.pushFlags).raised = s.raised := rfl
@[simp] theorem State.pushFlags_platform (s : State) : (s.pushFlags).platform = s.platform := rfl
@[simp] theorem State.pushFlags_params (s : State) : (s.pushFlags).params = s.params := rfl
@[simp] theorem State.pushFlags_bus (s : State) : (s.pushFlags).bus = (s.push (s.flags.image (s.drawWord 0))).bus := rfl
@[simp] theorem State.pushFlags_fetches (s : State) : (s.pushFlags).fetches = s.fetches := rfl
@[simp] theorem State.pushFlags_ahead (s : State) : (s.pushFlags).ahead = s.ahead := rfl
@[simp] theorem State.pushFlags_draws (s : State) : (s.pushFlags).draws = s.draws + 1 := rfl
@[simp] theorem State.pushFlags_isMemory (s : State) (x : PhysAddr) : (s.pushFlags).isMemory x = s.isMemory x := rfl
@[simp] theorem State.pushFlags_lockOutput (s : State) : (s.pushFlags).lockOutput = s.lockOutput := rfl

@[simp] theorem State.pushFrame_flags (s : State) : (s.pushFrame).flags = s.flags.masked := rfl
@[simp] theorem State.pushFrame_es (s : State) : (s.pushFrame).es = s.es := rfl
@[simp] theorem State.pushFrame_cs (s : State) : (s.pushFrame).cs = s.cs := rfl
@[simp] theorem State.pushFrame_ss (s : State) : (s.pushFrame).ss = s.ss := rfl
@[simp] theorem State.pushFrame_ds (s : State) : (s.pushFrame).ds = s.ds := rfl
@[simp] theorem State.pushFrame_ip (s : State) : (s.pushFrame).ip = s.ip := rfl
@[simp] theorem State.pushFrame_halted (s : State) : (s.pushFrame).halted = s.halted := rfl
@[simp] theorem State.pushFrame_pins (s : State) : (s.pushFrame).pins = s.pins := rfl
@[simp] theorem State.pushFrame_pfx (s : State) : (s.pushFrame).pfx = s.pfx := rfl
@[simp] theorem State.pushFrame_inProgress (s : State) : (s.pushFrame).inProgress = s.inProgress := rfl
@[simp] theorem State.pushFrame_start (s : State) : (s.pushFrame).start = s.start := rfl
@[simp] theorem State.pushFrame_shadow (s : State) : (s.pushFrame).shadow = s.shadow := rfl
@[simp] theorem State.pushFrame_raised (s : State) : (s.pushFrame).raised = s.raised := rfl
@[simp] theorem State.pushFrame_platform (s : State) : (s.pushFrame).platform = s.platform := rfl
@[simp] theorem State.pushFrame_params (s : State) : (s.pushFrame).params = s.params := rfl
@[simp] theorem State.pushFrame_fetches (s : State) : (s.pushFrame).fetches = s.fetches := rfl
@[simp] theorem State.pushFrame_ahead (s : State) : (s.pushFrame).ahead = s.ahead := rfl
@[simp] theorem State.pushFrame_draws (s : State) : (s.pushFrame).draws = s.draws + 1 := rfl
@[simp] theorem State.pushFrame_isMemory (s : State) (x : PhysAddr) : (s.pushFrame).isMemory x = s.isMemory x := rfl
@[simp] theorem State.pushFrame_lockOutput (s : State) : (s.pushFrame).lockOutput = s.lockOutput := rfl

@[simp] theorem State.vectorJump_regs (s : State) (t : Byte) : (s.vectorJump t).regs = s.regs := rfl
@[simp] theorem State.vectorJump_flags (s : State) (t : Byte) : (s.vectorJump t).flags = s.flags := rfl
@[simp] theorem State.vectorJump_es (s : State) (t : Byte) : (s.vectorJump t).es = s.es := rfl
@[simp] theorem State.vectorJump_ss (s : State) (t : Byte) : (s.vectorJump t).ss = s.ss := rfl
@[simp] theorem State.vectorJump_ds (s : State) (t : Byte) : (s.vectorJump t).ds = s.ds := rfl
@[simp] theorem State.vectorJump_ip (s : State) (t : Byte) : (s.vectorJump t).ip = s.readPhysWord (vectorAddr t) := rfl
@[simp] theorem State.vectorJump_mem (s : State) (t : Byte) : (s.vectorJump t).mem = s.mem := rfl
@[simp] theorem State.vectorJump_halted (s : State) (t : Byte) : (s.vectorJump t).halted = false := rfl
@[simp] theorem State.vectorJump_pins (s : State) (t : Byte) : (s.vectorJump t).pins = s.pins := rfl
@[simp] theorem State.vectorJump_pfx (s : State) (t : Byte) : (s.vectorJump t).pfx = s.pfx := rfl
@[simp] theorem State.vectorJump_inProgress (s : State) (t : Byte) : (s.vectorJump t).inProgress = s.inProgress := rfl
@[simp] theorem State.vectorJump_start (s : State) (t : Byte) : (s.vectorJump t).start = s.start := rfl
@[simp] theorem State.vectorJump_shadow (s : State) (t : Byte) : (s.vectorJump t).shadow = s.shadow := rfl
@[simp] theorem State.vectorJump_raised (s : State) (t : Byte) : (s.vectorJump t).raised = s.raised := rfl
@[simp] theorem State.vectorJump_queue (s : State) (t : Byte) : (s.vectorJump t).queue = [] := rfl
@[simp] theorem State.vectorJump_platform (s : State) (t : Byte) : (s.vectorJump t).platform = s.platform := rfl
@[simp] theorem State.vectorJump_params (s : State) (t : Byte) : (s.vectorJump t).params = s.params := rfl
@[simp] theorem State.vectorJump_fetches (s : State) (t : Byte) : (s.vectorJump t).fetches = s.fetches := rfl
@[simp] theorem State.vectorJump_ahead (s : State) (t : Byte) : (s.vectorJump t).ahead = 0 := rfl
@[simp] theorem State.vectorJump_draws (s : State) (t : Byte) : (s.vectorJump t).draws = s.draws := rfl
@[simp] theorem State.vectorJump_isMemory (s : State) (t : Byte) (x : PhysAddr) : (s.vectorJump t).isMemory x = s.isMemory x := rfl
@[simp] theorem State.vectorJump_lockOutput (s : State) (t : Byte) : (s.vectorJump t).lockOutput = s.lockOutput := rfl
@[simp] theorem State.vectorJump_memoryByte (s : State) (t : Byte) (x : PhysAddr) : (s.vectorJump t).memoryByte x = s.memoryByte x := rfl

@[simp] theorem State.interrupt_regs (s : State) (t : Byte) : (s.interrupt t).regs = s.pushFrame.regs := rfl
@[simp] theorem State.interrupt_flags (s : State) (t : Byte) : (s.interrupt t).flags = s.flags.masked := rfl
@[simp] theorem State.interrupt_es (s : State) (t : Byte) : (s.interrupt t).es = s.es := rfl
@[simp] theorem State.interrupt_ss (s : State) (t : Byte) : (s.interrupt t).ss = s.ss := rfl
@[simp] theorem State.interrupt_ds (s : State) (t : Byte) : (s.interrupt t).ds = s.ds := rfl
@[simp] theorem State.interrupt_mem (s : State) (t : Byte) : (s.interrupt t).mem = s.pushFrame.mem := rfl
@[simp] theorem State.interrupt_halted (s : State) (t : Byte) : (s.interrupt t).halted = false := rfl
@[simp] theorem State.interrupt_pins (s : State) (t : Byte) : (s.interrupt t).pins = s.pins := rfl
@[simp] theorem State.interrupt_pfx (s : State) (t : Byte) : (s.interrupt t).pfx = s.pfx := rfl
@[simp] theorem State.interrupt_inProgress (s : State) (t : Byte) : (s.interrupt t).inProgress = s.inProgress := rfl
@[simp] theorem State.interrupt_start (s : State) (t : Byte) : (s.interrupt t).start = s.start := rfl
@[simp] theorem State.interrupt_shadow (s : State) (t : Byte) : (s.interrupt t).shadow = s.shadow := rfl
@[simp] theorem State.interrupt_raised (s : State) (t : Byte) : (s.interrupt t).raised = s.raised := rfl
@[simp] theorem State.interrupt_queue (s : State) (t : Byte) : (s.interrupt t).queue = [] := rfl
@[simp] theorem State.interrupt_platform (s : State) (t : Byte) : (s.interrupt t).platform = s.platform := rfl
@[simp] theorem State.interrupt_params (s : State) (t : Byte) : (s.interrupt t).params = s.params := rfl
@[simp] theorem State.interrupt_fetches (s : State) (t : Byte) : (s.interrupt t).fetches = s.fetches := rfl
@[simp] theorem State.interrupt_ahead (s : State) (t : Byte) : (s.interrupt t).ahead = 0 := rfl
@[simp] theorem State.interrupt_draws (s : State) (t : Byte) : (s.interrupt t).draws = s.draws + 1 := rfl
@[simp] theorem State.interrupt_isMemory (s : State) (t : Byte) (x : PhysAddr) : (s.interrupt t).isMemory x = s.isMemory x := rfl
@[simp] theorem State.interrupt_lockOutput (s : State) (t : Byte) : (s.interrupt t).lockOutput = s.lockOutput := rfl

@[simp] theorem State.endPrefixes_regs (s : State) : (s.endPrefixes).regs = s.regs := rfl
@[simp] theorem State.endPrefixes_flags (s : State) : (s.endPrefixes).flags = s.flags := rfl
@[simp] theorem State.endPrefixes_es (s : State) : (s.endPrefixes).es = s.es := rfl
@[simp] theorem State.endPrefixes_cs (s : State) : (s.endPrefixes).cs = s.cs := rfl
@[simp] theorem State.endPrefixes_ss (s : State) : (s.endPrefixes).ss = s.ss := rfl
@[simp] theorem State.endPrefixes_ds (s : State) : (s.endPrefixes).ds = s.ds := rfl
@[simp] theorem State.endPrefixes_ip (s : State) : (s.endPrefixes).ip = s.ip := rfl
@[simp] theorem State.endPrefixes_mem (s : State) : (s.endPrefixes).mem = s.mem := rfl
@[simp] theorem State.endPrefixes_halted (s : State) : (s.endPrefixes).halted = s.halted := rfl
@[simp] theorem State.endPrefixes_pins (s : State) : (s.endPrefixes).pins = s.pins := rfl
@[simp] theorem State.endPrefixes_pfx (s : State) : (s.endPrefixes).pfx = Prefixes.none := rfl
@[simp] theorem State.endPrefixes_inProgress (s : State) : (s.endPrefixes).inProgress = s.inProgress := rfl
@[simp] theorem State.endPrefixes_start (s : State) : (s.endPrefixes).start = s.start := rfl
@[simp] theorem State.endPrefixes_shadow (s : State) : (s.endPrefixes).shadow = s.shadow := rfl
@[simp] theorem State.endPrefixes_raised (s : State) : (s.endPrefixes).raised = s.raised := rfl
@[simp] theorem State.endPrefixes_queue (s : State) : (s.endPrefixes).queue = s.queue := rfl
@[simp] theorem State.endPrefixes_platform (s : State) : (s.endPrefixes).platform = s.platform := rfl
@[simp] theorem State.endPrefixes_params (s : State) : (s.endPrefixes).params = s.params := rfl
@[simp] theorem State.endPrefixes_bus (s : State) : (s.endPrefixes).bus = s.bus := rfl
@[simp] theorem State.endPrefixes_fetches (s : State) : (s.endPrefixes).fetches = s.fetches := rfl
@[simp] theorem State.endPrefixes_ahead (s : State) : (s.endPrefixes).ahead = s.ahead := rfl
@[simp] theorem State.endPrefixes_draws (s : State) : (s.endPrefixes).draws = s.draws := rfl
@[simp] theorem State.endPrefixes_isMemory (s : State) (x : PhysAddr) : (s.endPrefixes).isMemory x = s.isMemory x := rfl
@[simp] theorem State.endPrefixes_memoryByte (s : State) (x : PhysAddr) : (s.endPrefixes).memoryByte x = s.memoryByte x := rfl

@[simp] theorem State.raise_regs (s : State) (t : Byte) : (s.raise t).regs = (s.endPrefixes.interrupt t).regs := by simp [State.raise]
@[simp] theorem State.raise_flags (s : State) (t : Byte) : (s.raise t).flags = s.flags.masked := by simp [State.raise]
@[simp] theorem State.raise_es (s : State) (t : Byte) : (s.raise t).es = s.es := by simp [State.raise]
@[simp] theorem State.raise_cs (s : State) (t : Byte) : (s.raise t).cs = (s.endPrefixes.interrupt t).cs := by simp [State.raise]
@[simp] theorem State.raise_ss (s : State) (t : Byte) : (s.raise t).ss = s.ss := by simp [State.raise]
@[simp] theorem State.raise_ds (s : State) (t : Byte) : (s.raise t).ds = s.ds := by simp [State.raise]
@[simp] theorem State.raise_ip (s : State) (t : Byte) : (s.raise t).ip = (s.endPrefixes.interrupt t).ip := by simp [State.raise]
@[simp] theorem State.raise_mem (s : State) (t : Byte) : (s.raise t).mem = (s.endPrefixes.interrupt t).mem := by simp [State.raise]
@[simp] theorem State.raise_halted (s : State) (t : Byte) : (s.raise t).halted = false := by simp [State.raise]
@[simp] theorem State.raise_pins (s : State) (t : Byte) : (s.raise t).pins = s.pins := by simp [State.raise]
@[simp] theorem State.raise_pfx (s : State) (t : Byte) : (s.raise t).pfx = Prefixes.none := by simp [State.raise]
@[simp] theorem State.raise_inProgress (s : State) (t : Byte) : (s.raise t).inProgress = s.inProgress := by simp [State.raise]
@[simp] theorem State.raise_start (s : State) (t : Byte) : (s.raise t).start = s.start := by simp [State.raise]
@[simp] theorem State.raise_shadow (s : State) (t : Byte) : (s.raise t).shadow = s.shadow := by simp [State.raise]
@[simp] theorem State.raise_raised (s : State) (t : Byte) : (s.raise t).raised = true := by simp [State.raise]
@[simp] theorem State.raise_queue (s : State) (t : Byte) : (s.raise t).queue = [] := by simp [State.raise]
@[simp] theorem State.raise_platform (s : State) (t : Byte) : (s.raise t).platform = s.platform := by simp [State.raise]
@[simp] theorem State.raise_params (s : State) (t : Byte) : (s.raise t).params = s.params := by simp [State.raise]
@[simp] theorem State.raise_bus (s : State) (t : Byte) : (s.raise t).bus = (s.endPrefixes.interrupt t).bus := by simp [State.raise]
@[simp] theorem State.raise_fetches (s : State) (t : Byte) : (s.raise t).fetches = s.fetches := by simp [State.raise]
@[simp] theorem State.raise_ahead (s : State) (t : Byte) : (s.raise t).ahead = 0 := by simp [State.raise]
@[simp] theorem State.raise_draws (s : State) (t : Byte) : (s.raise t).draws = s.draws + 1 := by simp [State.raise]
@[simp] theorem State.raise_isMemory (s : State) (t : Byte) (x : PhysAddr) : (s.raise t).isMemory x = s.isMemory x := rfl

@[simp] theorem State.begin_regs (s : State) (n : Nat) : (s.begin n).regs = s.regs := rfl
@[simp] theorem State.begin_flags (s : State) (n : Nat) : (s.begin n).flags = s.flags := rfl
@[simp] theorem State.begin_es (s : State) (n : Nat) : (s.begin n).es = s.es := rfl
@[simp] theorem State.begin_cs (s : State) (n : Nat) : (s.begin n).cs = s.cs := rfl
@[simp] theorem State.begin_ss (s : State) (n : Nat) : (s.begin n).ss = s.ss := rfl
@[simp] theorem State.begin_ds (s : State) (n : Nat) : (s.begin n).ds = s.ds := rfl
@[simp] theorem State.begin_ip (s : State) (n : Nat) : (s.begin n).ip = s.ip + BitVec.ofNat 16 n := rfl
@[simp] theorem State.begin_mem (s : State) (n : Nat) : (s.begin n).mem = s.mem := rfl
@[simp] theorem State.begin_halted (s : State) (n : Nat) : (s.begin n).halted = s.halted := rfl
@[simp] theorem State.begin_pins (s : State) (n : Nat) : (s.begin n).pins = s.pins := rfl
@[simp] theorem State.begin_pfx (s : State) (n : Nat) : (s.begin n).pfx = s.pfx := rfl
@[simp] theorem State.begin_inProgress (s : State) (n : Nat) : (s.begin n).inProgress = s.inProgress := rfl
@[simp] theorem State.begin_start (s : State) (n : Nat) : (s.begin n).start = if s.pfx = Prefixes.none then s.ip else s.start := rfl
@[simp] theorem State.begin_shadow (s : State) (n : Nat) : (s.begin n).shadow = s.shadow := rfl
@[simp] theorem State.begin_raised (s : State) (n : Nat) : (s.begin n).raised = s.raised := rfl
@[simp] theorem State.begin_queue (s : State) (n : Nat) : (s.begin n).queue = s.queue := rfl
@[simp] theorem State.begin_platform (s : State) (n : Nat) : (s.begin n).platform = s.platform := rfl
@[simp] theorem State.begin_params (s : State) (n : Nat) : (s.begin n).params = s.params := rfl
@[simp] theorem State.begin_bus (s : State) (n : Nat) : (s.begin n).bus = s.bus := rfl
@[simp] theorem State.begin_fetches (s : State) (n : Nat) : (s.begin n).fetches = (s.fetchCycles (s.newPlaces n)).reverse ++ s.fetches := rfl
@[simp] theorem State.begin_ahead (s : State) (n : Nat) : (s.begin n).ahead = s.ahead + (s.newPlaces n).length - n := rfl
@[simp] theorem State.begin_draws (s : State) (n : Nat) : (s.begin n).draws = s.draws + 6 * s.queue.length + 1 := rfl
@[simp] theorem State.begin_isMemory (s : State) (n : Nat) (x : PhysAddr) : (s.begin n).isMemory x = s.isMemory x := rfl
@[simp] theorem State.begin_lockOutput (s : State) (n : Nat) : (s.begin n).lockOutput = s.lockOutput := rfl
@[simp] theorem State.begin_memoryByte (s : State) (n : Nat) (x : PhysAddr) : (s.begin n).memoryByte x = s.memoryByte x := rfl

@[simp] theorem State.latchNmi_regs (s : State) (pulse : Bool) (rest : List Bool) : (s.latchNmi pulse rest).regs = s.regs := rfl
@[simp] theorem State.latchNmi_flags (s : State) (pulse : Bool) (rest : List Bool) : (s.latchNmi pulse rest).flags = s.flags := rfl
@[simp] theorem State.latchNmi_es (s : State) (pulse : Bool) (rest : List Bool) : (s.latchNmi pulse rest).es = s.es := rfl
@[simp] theorem State.latchNmi_cs (s : State) (pulse : Bool) (rest : List Bool) : (s.latchNmi pulse rest).cs = s.cs := rfl
@[simp] theorem State.latchNmi_ss (s : State) (pulse : Bool) (rest : List Bool) : (s.latchNmi pulse rest).ss = s.ss := rfl
@[simp] theorem State.latchNmi_ds (s : State) (pulse : Bool) (rest : List Bool) : (s.latchNmi pulse rest).ds = s.ds := rfl
@[simp] theorem State.latchNmi_ip (s : State) (pulse : Bool) (rest : List Bool) : (s.latchNmi pulse rest).ip = s.ip := rfl
@[simp] theorem State.latchNmi_mem (s : State) (pulse : Bool) (rest : List Bool) : (s.latchNmi pulse rest).mem = s.mem := rfl
@[simp] theorem State.latchNmi_halted (s : State) (pulse : Bool) (rest : List Bool) : (s.latchNmi pulse rest).halted = s.halted := rfl
@[simp] theorem State.latchNmi_pins (s : State) (pulse : Bool) (rest : List Bool) : (s.latchNmi pulse rest).pins = { s.pins with nmiPending := s.pins.nmiPending || pulse, nmiDuring := rest } := rfl
@[simp] theorem State.latchNmi_pfx (s : State) (pulse : Bool) (rest : List Bool) : (s.latchNmi pulse rest).pfx = s.pfx := rfl
@[simp] theorem State.latchNmi_inProgress (s : State) (pulse : Bool) (rest : List Bool) : (s.latchNmi pulse rest).inProgress = s.inProgress := rfl
@[simp] theorem State.latchNmi_start (s : State) (pulse : Bool) (rest : List Bool) : (s.latchNmi pulse rest).start = s.start := rfl
@[simp] theorem State.latchNmi_shadow (s : State) (pulse : Bool) (rest : List Bool) : (s.latchNmi pulse rest).shadow = s.shadow := rfl
@[simp] theorem State.latchNmi_raised (s : State) (pulse : Bool) (rest : List Bool) : (s.latchNmi pulse rest).raised = s.raised := rfl
@[simp] theorem State.latchNmi_queue (s : State) (pulse : Bool) (rest : List Bool) : (s.latchNmi pulse rest).queue = s.queue := rfl
@[simp] theorem State.latchNmi_platform (s : State) (pulse : Bool) (rest : List Bool) : (s.latchNmi pulse rest).platform = s.platform := rfl
@[simp] theorem State.latchNmi_params (s : State) (pulse : Bool) (rest : List Bool) : (s.latchNmi pulse rest).params = s.params := rfl
@[simp] theorem State.latchNmi_bus (s : State) (pulse : Bool) (rest : List Bool) : (s.latchNmi pulse rest).bus = s.bus := rfl
@[simp] theorem State.latchNmi_fetches (s : State) (pulse : Bool) (rest : List Bool) : (s.latchNmi pulse rest).fetches = s.fetches := rfl
@[simp] theorem State.latchNmi_ahead (s : State) (pulse : Bool) (rest : List Bool) : (s.latchNmi pulse rest).ahead = s.ahead := rfl
@[simp] theorem State.latchNmi_draws (s : State) (pulse : Bool) (rest : List Bool) : (s.latchNmi pulse rest).draws = s.draws := rfl
@[simp] theorem State.latchNmi_isMemory (s : State) (pulse : Bool) (rest : List Bool) (x : PhysAddr) : (s.latchNmi pulse rest).isMemory x = s.isMemory x := rfl
@[simp] theorem State.latchNmi_lockOutput (s : State) (pulse : Bool) (rest : List Bool) : (s.latchNmi pulse rest).lockOutput = s.lockOutput := rfl
@[simp] theorem State.latchNmi_memoryByte (s : State) (pulse : Bool) (rest : List Bool) (x : PhysAddr) : (s.latchNmi pulse rest).memoryByte x = s.memoryByte x := rfl

@[simp] theorem State.takeNmi_flags (s : State) : (s.takeNmi).flags = s.flags.masked := rfl
@[simp] theorem State.takeNmi_es (s : State) : (s.takeNmi).es = s.es := rfl
@[simp] theorem State.takeNmi_ss (s : State) : (s.takeNmi).ss = s.ss := rfl
@[simp] theorem State.takeNmi_ds (s : State) : (s.takeNmi).ds = s.ds := rfl
@[simp] theorem State.takeNmi_halted (s : State) : (s.takeNmi).halted = false := rfl
@[simp] theorem State.takeNmi_pins (s : State) : (s.takeNmi).pins = { s.pins with nmiPending := false } := rfl
@[simp] theorem State.takeNmi_pfx (s : State) : (s.takeNmi).pfx = s.pfx := rfl
@[simp] theorem State.takeNmi_inProgress (s : State) : (s.takeNmi).inProgress = s.inProgress := rfl
@[simp] theorem State.takeNmi_start (s : State) : (s.takeNmi).start = s.start := rfl
@[simp] theorem State.takeNmi_shadow (s : State) : (s.takeNmi).shadow = s.shadow := rfl
@[simp] theorem State.takeNmi_raised (s : State) : (s.takeNmi).raised = s.raised := rfl
@[simp] theorem State.takeNmi_queue (s : State) : (s.takeNmi).queue = [] := rfl
@[simp] theorem State.takeNmi_platform (s : State) : (s.takeNmi).platform = s.platform := rfl
@[simp] theorem State.takeNmi_params (s : State) : (s.takeNmi).params = s.params := rfl
@[simp] theorem State.takeNmi_fetches (s : State) : (s.takeNmi).fetches = s.fetches := rfl
@[simp] theorem State.takeNmi_ahead (s : State) : (s.takeNmi).ahead = 0 := rfl
@[simp] theorem State.takeNmi_draws (s : State) : (s.takeNmi).draws = s.draws + 1 := rfl
@[simp] theorem State.takeNmi_isMemory (s : State) (x : PhysAddr) : (s.takeNmi).isMemory x = s.isMemory x := rfl
@[simp] theorem State.takeNmi_lockOutput (s : State) : (s.takeNmi).lockOutput = s.lockOutput := rfl

@[simp] theorem State.trim_regs (s : State) : (s.trim).regs = s.regs := rfl
@[simp] theorem State.trim_flags (s : State) : (s.trim).flags = s.flags := rfl
@[simp] theorem State.trim_es (s : State) : (s.trim).es = s.es := rfl
@[simp] theorem State.trim_cs (s : State) : (s.trim).cs = s.cs := rfl
@[simp] theorem State.trim_ss (s : State) : (s.trim).ss = s.ss := rfl
@[simp] theorem State.trim_ds (s : State) : (s.trim).ds = s.ds := rfl
@[simp] theorem State.trim_ip (s : State) : (s.trim).ip = s.ip := rfl
@[simp] theorem State.trim_mem (s : State) : (s.trim).mem = s.mem := rfl
@[simp] theorem State.trim_halted (s : State) : (s.trim).halted = s.halted := rfl
@[simp] theorem State.trim_pins (s : State) : (s.trim).pins = s.pins := rfl
@[simp] theorem State.trim_pfx (s : State) : (s.trim).pfx = s.pfx := rfl
@[simp] theorem State.trim_inProgress (s : State) : (s.trim).inProgress = s.inProgress := rfl
@[simp] theorem State.trim_start (s : State) : (s.trim).start = s.start := rfl
@[simp] theorem State.trim_shadow (s : State) : (s.trim).shadow = s.shadow := rfl
@[simp] theorem State.trim_raised (s : State) : (s.trim).raised = s.raised := rfl
@[simp] theorem State.trim_queue (s : State) : (s.trim).queue = s.queue.filter fun c => s.inWindow c.1 := rfl
@[simp] theorem State.trim_platform (s : State) : (s.trim).platform = s.platform := rfl
@[simp] theorem State.trim_params (s : State) : (s.trim).params = s.params := rfl
@[simp] theorem State.trim_bus (s : State) : (s.trim).bus = s.bus := rfl
@[simp] theorem State.trim_fetches (s : State) : (s.trim).fetches = s.fetches := rfl
@[simp] theorem State.trim_ahead (s : State) : (s.trim).ahead = s.ahead := rfl
@[simp] theorem State.trim_draws (s : State) : (s.trim).draws = s.draws := rfl
@[simp] theorem State.trim_isMemory (s : State) (x : PhysAddr) : (s.trim).isMemory x = s.isMemory x := rfl
@[simp] theorem State.trim_lockOutput (s : State) : (s.trim).lockOutput = s.lockOutput := rfl
@[simp] theorem State.trim_memoryByte (s : State) (x : PhysAddr) : (s.trim).memoryByte x = s.memoryByte x := rfl

@[simp] theorem State.placeCode_regs (s : State) (k : Nat) (bs : List Byte) : (s.placeCode k bs).regs = s.regs := by
  induction bs generalizing s k with
  | nil => rfl
  | cons b rest ih => exact ih _ _
@[simp] theorem State.placeCode_flags (s : State) (k : Nat) (bs : List Byte) : (s.placeCode k bs).flags = s.flags := by
  induction bs generalizing s k with
  | nil => rfl
  | cons b rest ih => exact ih _ _
@[simp] theorem State.placeCode_es (s : State) (k : Nat) (bs : List Byte) : (s.placeCode k bs).es = s.es := by
  induction bs generalizing s k with
  | nil => rfl
  | cons b rest ih => exact ih _ _
@[simp] theorem State.placeCode_cs (s : State) (k : Nat) (bs : List Byte) : (s.placeCode k bs).cs = s.cs := by
  induction bs generalizing s k with
  | nil => rfl
  | cons b rest ih => exact ih _ _
@[simp] theorem State.placeCode_ss (s : State) (k : Nat) (bs : List Byte) : (s.placeCode k bs).ss = s.ss := by
  induction bs generalizing s k with
  | nil => rfl
  | cons b rest ih => exact ih _ _
@[simp] theorem State.placeCode_ds (s : State) (k : Nat) (bs : List Byte) : (s.placeCode k bs).ds = s.ds := by
  induction bs generalizing s k with
  | nil => rfl
  | cons b rest ih => exact ih _ _
@[simp] theorem State.placeCode_ip (s : State) (k : Nat) (bs : List Byte) : (s.placeCode k bs).ip = s.ip := by
  induction bs generalizing s k with
  | nil => rfl
  | cons b rest ih => exact ih _ _
@[simp] theorem State.placeCode_halted (s : State) (k : Nat) (bs : List Byte) : (s.placeCode k bs).halted = s.halted := by
  induction bs generalizing s k with
  | nil => rfl
  | cons b rest ih => exact ih _ _
@[simp] theorem State.placeCode_pins (s : State) (k : Nat) (bs : List Byte) : (s.placeCode k bs).pins = s.pins := by
  induction bs generalizing s k with
  | nil => rfl
  | cons b rest ih => exact ih _ _
@[simp] theorem State.placeCode_pfx (s : State) (k : Nat) (bs : List Byte) : (s.placeCode k bs).pfx = s.pfx := by
  induction bs generalizing s k with
  | nil => rfl
  | cons b rest ih => exact ih _ _
@[simp] theorem State.placeCode_inProgress (s : State) (k : Nat) (bs : List Byte) : (s.placeCode k bs).inProgress = s.inProgress := by
  induction bs generalizing s k with
  | nil => rfl
  | cons b rest ih => exact ih _ _
@[simp] theorem State.placeCode_start (s : State) (k : Nat) (bs : List Byte) : (s.placeCode k bs).start = s.start := by
  induction bs generalizing s k with
  | nil => rfl
  | cons b rest ih => exact ih _ _
@[simp] theorem State.placeCode_shadow (s : State) (k : Nat) (bs : List Byte) : (s.placeCode k bs).shadow = s.shadow := by
  induction bs generalizing s k with
  | nil => rfl
  | cons b rest ih => exact ih _ _
@[simp] theorem State.placeCode_raised (s : State) (k : Nat) (bs : List Byte) : (s.placeCode k bs).raised = s.raised := by
  induction bs generalizing s k with
  | nil => rfl
  | cons b rest ih => exact ih _ _
@[simp] theorem State.placeCode_queue (s : State) (k : Nat) (bs : List Byte) : (s.placeCode k bs).queue = s.queue := by
  induction bs generalizing s k with
  | nil => rfl
  | cons b rest ih => exact ih _ _
@[simp] theorem State.placeCode_params (s : State) (k : Nat) (bs : List Byte) : (s.placeCode k bs).params = s.params := by
  induction bs generalizing s k with
  | nil => rfl
  | cons b rest ih => exact ih _ _
@[simp] theorem State.placeCode_bus (s : State) (k : Nat) (bs : List Byte) : (s.placeCode k bs).bus = s.bus := by
  induction bs generalizing s k with
  | nil => rfl
  | cons b rest ih => exact ih _ _
@[simp] theorem State.placeCode_fetches (s : State) (k : Nat) (bs : List Byte) : (s.placeCode k bs).fetches = s.fetches := by
  induction bs generalizing s k with
  | nil => rfl
  | cons b rest ih => exact ih _ _
@[simp] theorem State.placeCode_ahead (s : State) (k : Nat) (bs : List Byte) : (s.placeCode k bs).ahead = s.ahead := by
  induction bs generalizing s k with
  | nil => rfl
  | cons b rest ih => exact ih _ _
@[simp] theorem State.placeCode_draws (s : State) (k : Nat) (bs : List Byte) : (s.placeCode k bs).draws = s.draws := by
  induction bs generalizing s k with
  | nil => rfl
  | cons b rest ih => exact ih _ _

/-! ## The lock of XCHG -/

@[simp] theorem State.underLock_pfx (s : State) (f : State → State) : (s.underLock f).pfx = s.pfx := rfl
@[simp] theorem State.underLock_regs (s : State) (f : State → State) : (s.underLock f).regs = (f { s with pfx := { s.pfx with lock := true } }).regs := rfl
@[simp] theorem State.underLock_flags (s : State) (f : State → State) : (s.underLock f).flags = (f { s with pfx := { s.pfx with lock := true } }).flags := rfl
@[simp] theorem State.underLock_es (s : State) (f : State → State) : (s.underLock f).es = (f { s with pfx := { s.pfx with lock := true } }).es := rfl
@[simp] theorem State.underLock_cs (s : State) (f : State → State) : (s.underLock f).cs = (f { s with pfx := { s.pfx with lock := true } }).cs := rfl
@[simp] theorem State.underLock_ss (s : State) (f : State → State) : (s.underLock f).ss = (f { s with pfx := { s.pfx with lock := true } }).ss := rfl
@[simp] theorem State.underLock_ds (s : State) (f : State → State) : (s.underLock f).ds = (f { s with pfx := { s.pfx with lock := true } }).ds := rfl
@[simp] theorem State.underLock_ip (s : State) (f : State → State) : (s.underLock f).ip = (f { s with pfx := { s.pfx with lock := true } }).ip := rfl
@[simp] theorem State.underLock_mem (s : State) (f : State → State) : (s.underLock f).mem = (f { s with pfx := { s.pfx with lock := true } }).mem := rfl
@[simp] theorem State.underLock_halted (s : State) (f : State → State) : (s.underLock f).halted = (f { s with pfx := { s.pfx with lock := true } }).halted := rfl
@[simp] theorem State.underLock_pins (s : State) (f : State → State) : (s.underLock f).pins = (f { s with pfx := { s.pfx with lock := true } }).pins := rfl
@[simp] theorem State.underLock_inProgress (s : State) (f : State → State) : (s.underLock f).inProgress = (f { s with pfx := { s.pfx with lock := true } }).inProgress := rfl
@[simp] theorem State.underLock_start (s : State) (f : State → State) : (s.underLock f).start = (f { s with pfx := { s.pfx with lock := true } }).start := rfl
@[simp] theorem State.underLock_shadow (s : State) (f : State → State) : (s.underLock f).shadow = (f { s with pfx := { s.pfx with lock := true } }).shadow := rfl
@[simp] theorem State.underLock_raised (s : State) (f : State → State) : (s.underLock f).raised = (f { s with pfx := { s.pfx with lock := true } }).raised := rfl
@[simp] theorem State.underLock_queue (s : State) (f : State → State) : (s.underLock f).queue = (f { s with pfx := { s.pfx with lock := true } }).queue := rfl
@[simp] theorem State.underLock_platform (s : State) (f : State → State) : (s.underLock f).platform = (f { s with pfx := { s.pfx with lock := true } }).platform := rfl
@[simp] theorem State.underLock_params (s : State) (f : State → State) : (s.underLock f).params = (f { s with pfx := { s.pfx with lock := true } }).params := rfl
@[simp] theorem State.underLock_bus (s : State) (f : State → State) : (s.underLock f).bus = (f { s with pfx := { s.pfx with lock := true } }).bus := rfl
@[simp] theorem State.underLock_fetches (s : State) (f : State → State) : (s.underLock f).fetches = (f { s with pfx := { s.pfx with lock := true } }).fetches := rfl
@[simp] theorem State.underLock_ahead (s : State) (f : State → State) : (s.underLock f).ahead = (f { s with pfx := { s.pfx with lock := true } }).ahead := rfl
@[simp] theorem State.underLock_draws (s : State) (f : State → State) : (s.underLock f).draws = (f { s with pfx := { s.pfx with lock := true } }).draws := rfl

/-! ## Registers after a register write -/

@[simp] theorem Regs.get16_set16_same (g : Regs) (r : Reg16) (v : Word) : (g.set16 r v).get16 r = v := by cases r <;> rfl

theorem Regs.get16_set16_other (g : Regs) {r q : Reg16} (v : Word) (h : q ≠ r) : (g.set16 r v).get16 q = g.get16 q := by
  cases r <;> cases q <;> first | rfl | exact absurd rfl h

end Sys2Proof.Machine
end

