-- ==== Sys2Proof/Laws/Ops.lean ====
section
/-!
SUPPORT. What each shared operation does, said once: places, the stack, interrupt entry, repetition, and the cases of the
step.
-/
namespace Sys2Proof.Machine

/-! ## Registers and bytes -/

@[simp] theorem lowByte_withLow (w : Word) (v : Byte) : lowByte (withLow w v) = v := lowByte_wordOf _ _
@[simp] theorem highByte_withLow (w : Word) (v : Byte) : highByte (withLow w v) = highByte w := highByte_wordOf _ _
@[simp] theorem lowByte_withHigh (w : Word) (v : Byte) : lowByte (withHigh w v) = lowByte w := lowByte_wordOf _ _
@[simp] theorem highByte_withHigh (w : Word) (v : Byte) : highByte (withHigh w v) = v := highByte_wordOf _ _

@[simp] theorem Regs.get8_set8_same (g : Regs) (r : Reg8) (v : Byte) : (g.set8 r v).get8 r = v := by
  cases r <;> simp [Regs.set8, Regs.get8]

theorem Regs.get8_set8_other (g : Regs) {r q : Reg8} (v : Byte) (h : q ≠ r) : (g.set8 r v).get8 q = g.get8 q := by
  cases r <;> cases q <;> first | exact absurd rfl h | simp [Regs.set8, Regs.get8]

/-! ## The LOCK output -/

/-- Inside an instruction, and between two, the LOCK output is the prefix in force in the maximum configuration (R89, R381). -/
theorem lockOutput_of_single {s : State} (h : s.pfx.rep = none ∨ s.inProgress = none) :
    s.lockOutput = (s.pfx.lock && s.params.configuration == .maximum) := by
  unfold State.lockOutput State.betweenElements
  rcases h with h | h <;> simp [h]

/-- At the window between two elements of a repeated string instruction LOCK is released (D38). -/
theorem lockOutput_window {s : State} (h : s.betweenElements = true) : s.lockOutput = false := by
  unfold State.lockOutput
  simp [h]

/-- The sequence that an instruction raises runs without its LOCK prefix (R13; assumption log 5). -/
theorem lockOutput_endPrefixes (s : State) : s.endPrefixes.lockOutput = false := by
  simp [State.lockOutput, Prefixes.none]

/-! ## Memory and devices through the state -/

/-- What stands at an address depends on the platform alone. -/
theorem isMemory_congr {s t : State} (h : s.platform = t.platform) (a : PhysAddr) : s.isMemory a = t.isMemory a := by
  unfold State.isMemory State.kindAt; rw [h]

/-- A read of plain memory gives the byte memory holds (R76). -/
theorem readPhys_memory {s : State} {a : PhysAddr} (h : s.isMemory a = true) : s.readPhys a = s.memoryByte a := by
  unfold State.readPhys; rw [if_pos h]

/-- A read elsewhere gives what the environment supplies in this bus cycle (R352). -/
theorem readPhys_device {s : State} {a : PhysAddr} (h : s.isMemory a = false) :
    s.readPhys a = Config.deviceInput s.draws s.bus.length a := by
  unfold State.readPhys; rw [if_neg (by simp [h])]

theorem memoryByte_writePhys_same {s : State} (h : s.mem.wf = true) {a : PhysAddr} (hm : s.isMemory a = true) (v : Byte) :
    (s.writePhys a v).memoryByte a = v := by
  unfold State.memoryByte
  rw [State.writePhys_mem, if_pos hm]
  exact Memory.read_write_same h _ v

theorem memoryByte_writePhys_other (s : State) {a b : PhysAddr} (v : Byte) (h : b ≠ a) :
    (s.writePhys a v).memoryByte b = s.memoryByte b := by
  unfold State.memoryByte
  rw [State.writePhys_mem]
  split
  · exact Memory.read_write_other _ v fun e => h (BitVec.eq_of_toNat_eq e)
  · rfl

/-- A store to a device leaves memory alone (R76). -/
theorem writePhys_device {s : State} {a : PhysAddr} (h : s.isMemory a = false) (v : Byte) : (s.writePhys a v).mem = s.mem := by
  rw [State.writePhys_mem, if_neg (by simp [h])]

theorem writePhys_wf {s : State} (h : s.mem.wf = true) (a : PhysAddr) (v : Byte) : (s.writePhys a v).mem.wf = true := by
  rw [State.writePhys_mem]
  split
  · exact Memory.wf_write h v a.isLt
  · exact h

theorem writeByte_wf {s : State} (h : s.mem.wf = true) (seg off : Word) (v : Byte) :
    (s.writeByte seg off v).mem.wf = true :=
  writePhys_wf h _ v

theorem writeWord_wf {s : State} (h : s.mem.wf = true) (seg off v : Word) : (s.writeWord seg off v).mem.wf = true :=
  writePhys_wf (writePhys_wf h _ _) _ _

/-- Memory holds a byte stored in it. -/
theorem memoryByte_writeByte {s : State} (h : s.mem.wf = true) (seg off : Word) (v : Byte)
    (hm : s.isMemory (physAddr seg off) = true) : (s.writeByte seg off v).memoryByte (physAddr seg off) = v :=
  memoryByte_writePhys_same h hm v

theorem writeByte_other (s : State) (seg off : Word) (v : Byte) {a : PhysAddr} (h : a ≠ physAddr seg off) :
    (s.writeByte seg off v).memoryByte a = s.memoryByte a :=
  memoryByte_writePhys_other s v h

/-- Memory holds the low byte of a word stored in it. -/
theorem memoryByte_writeWord_low {s : State} (h : s.mem.wf = true) (seg off v : Word)
    (hm : s.isMemory (physAddr seg off) = true) :
    (s.writeWord seg off v).memoryByte (physAddr seg off) = lowByte v := by
  refine (memoryByte_writePhys_other _ _ (highAddr_ne seg off).symm).trans ?_
  exact memoryByte_writePhys_same h hm _

/-- Memory holds the high byte of a word stored in it. -/
theorem memoryByte_writeWord_high {s : State} (h : s.mem.wf = true) (seg off v : Word)
    (hm : s.isMemory (highAddr seg off) = true) :
    (s.writeWord seg off v).memoryByte (highAddr seg off) = highByte v :=
  memoryByte_writePhys_same (writePhys_wf h _ _) (by simpa using hm) _

theorem writeWord_other (s : State) (seg off v : Word) {a : PhysAddr} (h1 : a ≠ physAddr seg off)
    (h2 : a ≠ highAddr seg off) : (s.writeWord seg off v).memoryByte a = s.memoryByte a :=
  (memoryByte_writePhys_other _ _ h2).trans (memoryByte_writePhys_other _ _ h1)

/-- A word of plain memory reads back as it was stored. -/
theorem readWord_writeWord {s : State} (h : s.mem.wf = true) (seg off v : Word)
    (h1 : s.isMemory (physAddr seg off) = true) (h2 : s.isMemory (highAddr seg off) = true) :
    (s.writeWord seg off v).readWord seg off = v := by
  unfold State.readWord
  rw [readPhys_memory (by simpa using h1), readPhys_memory (by simpa using h2), memoryByte_writeWord_low h _ _ _ h1,
    memoryByte_writeWord_high h _ _ _ h2, wordOf_halves]

/-- A byte read depends on memory, the platform and the two numbers of the access. -/
theorem readPhys_congr {s t : State} (h : s.mem = t.mem) (hp : s.platform = t.platform)
    (hb : s.bus.length = t.bus.length) (hd : s.draws = t.draws) (a : PhysAddr) : s.readPhys a = t.readPhys a := by
  unfold State.readPhys State.memoryByte; rw [isMemory_congr hp, h, hb, hd]

/-- A word read depends on memory, the platform and the two numbers of the access. -/
theorem readWord_congr {s t : State} (h : s.mem = t.mem) (hp : s.platform = t.platform)
    (hb : s.bus.length = t.bus.length) (hd : s.draws = t.draws) (seg off : Word) : s.readWord seg off = t.readWord seg off := by
  unfold State.readWord; rw [readPhys_congr h hp hb hd, readPhys_congr h hp hb hd]

/-! ## Places -/

theorem put8_wf {s : State} (h : s.mem.wf = true) (l : Loc8) (v : Byte) : (s.put8 l v).mem.wf = true := by
  cases l with
  | reg r => exact h
  | mem seg off => exact writeByte_wf h seg off v

theorem put16_wf {s : State} (h : s.mem.wf = true) (l : Loc16) (v : Word) : (s.put16 l v).mem.wf = true := by
  cases l with
  | reg r => exact h
  | mem seg off => exact writeWord_wf h seg off v

/-- The bus cycles of reading a byte place: none for a register. -/
theorem noteGet8_bus (s : State) (l : Loc8) : (s.noteGet8 l).bus =
    (match l with | .reg _ => [] | .mem seg off => s.byteCycles .read (physAddr seg off) (s.get8 l)) ++ s.bus := by
  cases l <;> rfl

/-- The bus cycles of reading a word place: none for a register. -/
theorem noteGet16_bus (s : State) (l : Loc16) : (s.noteGet16 l).bus =
    (match l with | .reg _ => [] | .mem seg off => s.wordCycles .read seg off (s.get16 l)) ++ s.bus := by
  cases l <;> rfl

/-- The bus cycles of writing a byte place: none for a register. -/
theorem put8_bus (s : State) (l : Loc8) (v : Byte) : (s.put8 l v).bus =
    (match l with | .reg _ => [] | .mem seg off => s.byteCycles .write (physAddr seg off) v) ++ s.bus := by
  cases l <;> rfl

/-- The bus cycles of writing a word place: none for a register. -/
theorem put16_bus (s : State) (l : Loc16) (v : Word) : (s.put16 l v).bus =
    (match l with | .reg _ => [] | .mem seg off => s.wordCycles .write seg off v) ++ s.bus := by
  cases l <;> rfl

/-! ## The stack and interrupt entry -/

theorem push_wf {s : State} (h : s.mem.wf = true) (v : Word) : (s.push v).mem.wf = true :=
  writeWord_wf (s := s.setReg16 .sp s.pushOffset) h _ _ _

/-- After a push the word pushed is on top, if the stack is plain memory there. -/
theorem top_push {s : State} (h : s.mem.wf = true) (v : Word) (h1 : s.isMemory (physAddr s.ss s.pushOffset) = true)
    (h2 : s.isMemory (highAddr s.ss s.pushOffset) = true) : (s.push v).top = v :=
  readWord_writeWord (s := s.setReg16 .sp s.pushOffset) h _ _ _ (by simpa using h1) (by simpa using h2)

/-- The frame of an interrupt keeps the canonical form of memory. -/
theorem pushFrame_wf {s : State} (h : s.mem.wf = true) : s.pushFrame.mem.wf = true := by
  have h1 : s.pushFlags.mem.wf = true := by rw [State.pushFlags_mem]; exact push_wf h _
  have h2 : (s.pushFlags.setFlags s.pushFlags.flags.masked).mem.wf = true := by rwa [State.setFlags_mem]
  exact push_wf (push_wf h2 _) _

/-- Interrupt entry keeps the canonical form of memory. -/
theorem interrupt_wf {s : State} (h : s.mem.wf = true) (t : Byte) : (s.interrupt t).mem.wf = true := by
  rw [State.interrupt_mem]; exact pushFrame_wf h

/-- What a word store does to memory depends on memory and the platform alone. -/
theorem writeWord_mem_congr {s t : State} (h : s.mem = t.mem) (hp : s.platform = t.platform) (seg off v : Word) :
    (s.writeWord seg off v).mem = (t.writeWord seg off v).mem := by
  have key : ∀ (u w : State) (a : PhysAddr) (b : Byte), u.mem = w.mem → u.isMemory a = w.isMemory a →
      (u.writePhys a b).mem = (w.writePhys a b).mem := by
    intro u w a b e1 e2
    rw [State.writePhys_mem, State.writePhys_mem, e1, e2]
  rw [State.writeWord_mem, State.writeWord_mem]
  exact key _ _ _ _ (key _ _ _ _ h (isMemory_congr hp _)) (isMemory_congr hp _)

/-- The memory after the frame of an interrupt: three words stored below the old top of the stack, flags deepest (R356). -/
theorem pushFrame_mem (s : State) : s.pushFrame.mem =
    (((s.writeWord s.ss (s.regs.sp - 2) (s.flags.image (s.drawWord 0))).writeWord s.ss (s.regs.sp - 4) s.cs).writeWord
      s.ss (s.regs.sp - 6) s.ip).mem := by
  have e2 : s.regs.sp - 2 - 2 = s.regs.sp - 4 := by bv_omega
  have e3 : s.regs.sp - 4 - 2 = s.regs.sp - 6 := by bv_omega
  rw [← e3, ← e2]
  unfold State.pushFrame
  rw [State.push_mem]
  refine writeWord_mem_congr ?_ (by simp) _ _ _
  rw [State.push_mem]
  refine writeWord_mem_congr ?_ (by simp) _ _ _
  rw [State.setFlags_mem, State.pushFlags_mem, State.push_mem]
  rfl

/-- The bus cycles of the frame of an interrupt, newest first: IP, CS and the flags (R356). -/
theorem pushFrame_bus (s : State) : s.pushFrame.bus =
    s.wordCycles .write s.ss (s.regs.sp - 6) s.ip ++ (s.wordCycles .write s.ss (s.regs.sp - 4) s.cs ++
      (s.wordCycles .write s.ss (s.regs.sp - 2) (s.flags.image (s.drawWord 0)) ++ s.bus)) := by
  have e2 : s.regs.sp - 2 - 2 = s.regs.sp - 4 := by bv_omega
  have e3 : s.regs.sp - 4 - 2 = s.regs.sp - 6 := by bv_omega
  rw [← e3, ← e2]
  unfold State.pushFrame
  rw [State.push_bus, State.push_bus, State.setFlags_bus, State.pushFlags_bus, State.push_bus]
  rfl

/-- The registers after the frame of an interrupt: SP alone changes, by 6 (R356). -/
theorem pushFrame_regs (s : State) : s.pushFrame.regs = s.regs.set16 .sp (s.regs.sp - 6) := by
  have e : s.regs.sp - 2 - 2 - 2 = s.regs.sp - 6 := by bv_omega
  rw [← e]
  rfl

/-- The flags survive a push and a pop of the flag register, whatever the free bits are (R170, R171). -/
theorem ofImage_image (f : Flags) (u : Word) : Flags.ofImage (f.image u) = f := by
  obtain ⟨a, b, c, d, e, g, h, i, j⟩ := f
  unfold Flags.image Flags.ofImage
  simp only [BitVec.getLsbD_append]
  simp

/-- With no NMI, no pulse to come and no trap owed nothing follows an interrupt sequence (R353). -/
theorem afterSequence_idle {s : State} (h : s.pins.nmiPending = false) (hd : s.pins.nmiDuring = []) :
    s.afterSequence false = s := by
  simp [State.afterSequence, hd, State.followSequence, h]

/-- An owed single-step trap follows a sequence when no NMI is latched and no pulse comes (R353). -/
theorem afterSequence_owed {s : State} (h : s.pins.nmiPending = false) (hd : s.pins.nmiDuring = []) :
    s.afterSequence true = s.interrupt 1 := by
  simp [State.afterSequence, hd, State.followSequence, h]

/-- A latched NMI follows a sequence and drops the owed trap (R353). -/
theorem afterSequence_nmi {s : State} (h : s.pins.nmiPending = true) (hd : s.pins.nmiDuring = []) (owed : Bool) :
    s.afterSequence owed = s.takeNmi := by
  simp [State.afterSequence, hd, State.followSequence, h]

/-- A pulse while a sequence runs is latched, taken after it, and drops the owed trap (R352, R353, R354). -/
theorem afterSequence_pulse {s : State} {rest : List Bool} (hd : s.pins.nmiDuring = true :: rest) (owed : Bool) :
    s.afterSequence owed = (s.latchNmi true rest).takeNmi.afterSequence false := by
  simp [State.afterSequence, hd, State.followSequence]

/-- What the two sequences and the latch of NMI keep, all that follows a sequence keeps: the one induction over the pulses. -/
theorem afterSequence_keeps {P : State → Prop} (hl : ∀ s p r, P s → P (s.latchNmi p r)) (hn : ∀ s, P s → P s.takeNmi)
    (hi : ∀ s, P s → P (s.interrupt 1)) {s : State} (h : P s) (owed : Bool) : P (s.afterSequence owed) := by
  unfold State.afterSequence
  generalize s.pins.nmiDuring = l
  induction l generalizing s owed with
  | nil =>
    unfold State.followSequence
    split
    · exact hn _ h
    · split
      · exact hi _ h
      · exact h
  | cons p rest ih =>
    have h1 := hl s p rest h
    unfold State.followSequence
    dsimp only
    split
    · exact ih (hn _ h1) _
    · split
      · exact ih (hi _ h1) _
      · exact h1

/-! ## Fetching -/

/-- The bytes fetched for an instruction reach as far as plain memory does, and no further than `fetchedTo`. -/
theorem newPlaces_length_le (s : State) (n : Nat) : s.ahead + (s.newPlaces n).length ≤ s.fetchedTo n := by
  have h : (s.newPlaces n).length ≤ s.fetchedTo n - s.ahead := by
    unfold State.newPlaces
    refine (List.takeWhile_sublist _).length_le.trans ?_
    simp
  have h2 : s.ahead ≤ s.fetchedTo n := by unfold State.fetchedTo; omega
  omega

/-- The queue never holds more than QUEUE_LEN bytes (R50). -/
theorem begin_ahead_le {s : State} (h : s.ahead ≤ s.params.queueLen) (n : Nat) : (s.begin n).ahead ≤ s.params.queueLen := by
  have h1 := newPlaces_length_le s n
  have h2 : Config.fetchAhead s.draws % (s.params.queueLen + 1) < s.params.queueLen + 1 := Nat.mod_lt _ (by omega)
  rw [State.begin_ahead]
  unfold State.fetchedTo at h1
  omega

/-- Every fetch cycle reads a code byte that was not in the queue (R50, R382). -/
theorem fetchCycles_target (s : State) (ks : List Nat) (c : BusCycle) (h : c ∈ s.fetchCycles ks) :
    c.direction = .read ∧ ∃ k ∈ ks, c.target = .fetch (s.codeAddr k) := by
  induction ks using State.fetchCycles.induct s with
  | case1 => simp [State.fetchCycles] at h
  | case2 k =>
    simp only [State.fetchCycles, List.mem_singleton] at h
    subst h
    exact ⟨rfl, k, by simp, rfl⟩
  | case3 k j rest hk ih =>
    simp only [State.fetchCycles, if_pos hk, List.mem_cons] at h
    rcases h with rfl | h
    · exact ⟨rfl, k, by simp, rfl⟩
    · obtain ⟨h1, i, hi, h2⟩ := ih h
      exact ⟨h1, i, List.mem_cons_of_mem _ hi, h2⟩
  | case4 k j rest hk ih =>
    simp only [State.fetchCycles, if_neg hk, List.mem_cons] at h
    rcases h with rfl | h
    · exact ⟨rfl, k, by simp, rfl⟩
    · obtain ⟨h1, i, hi, h2⟩ := ih h
      exact ⟨h1, i, List.mem_cons_of_mem _ (List.mem_cons_of_mem _ hi), h2⟩

/-! ## The operations of the meanings -/

theorem binary8_next (op : BinOp 8) (l : Loc8) (b : Byte) (s : State) :
    binary8 op l b s = .next ((op (s.noteGet8 l) (s.get8 l) b).2.put8 l (op (s.noteGet8 l) (s.get8 l) b).1) := rfl

theorem binary16_next (op : BinOp 16) (l : Loc16) (b : Word) (s : State) :
    binary16 op l b s = .next ((op (s.noteGet16 l) (s.get16 l) b).2.put16 l (op (s.noteGet16 l) (s.get16 l) b).1) := rfl

theorem flags8_next (op : BinOp 8) (l : Loc8) (b : Byte) (s : State) :
    flags8 op l b s = .next (op (s.noteGet8 l) (s.get8 l) b).2 := rfl

theorem flags16_next (op : BinOp 16) (l : Loc16) (b : Word) (s : State) :
    flags16 op l b s = .next (op (s.noteGet16 l) (s.get16 l) b).2 := rfl

theorem unary8_next (op : UnOp 8) (l : Loc8) (s : State) :
    unary8 op l s = .next ((op (s.noteGet8 l) (s.get8 l)).2.put8 l (op (s.noteGet8 l) (s.get8 l)).1) := rfl

theorem unary16_next (op : UnOp 16) (l : Loc16) (s : State) :
    unary16 op l s = .next ((op (s.noteGet16 l) (s.get16 l)).2.put16 l (op (s.noteGet16 l) (s.get16 l)).1) := rfl

/-- Everything a string instruction can answer: it runs one element, or does nothing because CX is 0, or ends, or stays in
progress (R302). -/
theorem repeatString_cases (i : Instr) (c : Bool) (prim : State → State) (s : State) :
    (s.pfx.rep = none ∧ repeatString i c prim s = .next (prim s)) ∨
    (∃ p, s.pfx.rep = some p ∧ s.regs.cx = 0 ∧ repeatString i c prim s = .next s) ∨
    (∃ p, s.pfx.rep = some p ∧ s.regs.cx ≠ 0 ∧
      ((prim s).countElement.regs.cx = 0 ∨ (c = true ∧ stopsOnZero p (prim s).countElement.flags.zf = true)) ∧
      repeatString i c prim s = .next (prim s).countElement) ∨
    (∃ p, s.pfx.rep = some p ∧ s.regs.cx ≠ 0 ∧ (prim s).countElement.regs.cx ≠ 0 ∧
      repeatString i c prim s = .next { (prim s).countElement with inProgress := some i }) := by
  unfold repeatString
  cases hp : s.pfx.rep with
  | none => exact .inl ⟨rfl, rfl⟩
  | some p =>
    refine .inr ?_
    by_cases hc : s.regs.cx = 0
    · exact .inl ⟨p, rfl, hc, if_pos hc⟩
    · refine .inr ?_
      have hb : ∀ x : Bool, (decide ((prim s).countElement.regs.cx = 0) || x) = true ↔
          (prim s).countElement.regs.cx = 0 ∨ x = true := fun x => by rw [Bool.or_eq_true, decide_eq_true_eq]
      by_cases hd : ((prim s).countElement.regs.cx = 0 ∨
          (c = true ∧ stopsOnZero p (prim s).countElement.flags.zf = true))
      · exact .inl ⟨p, rfl, hc, hd, (if_neg hc).trans (if_pos ((hb _).2 (by rwa [Bool.and_eq_true])))⟩
      · refine .inr ⟨p, rfl, hc, fun h => hd (.inl h), (if_neg hc).trans (if_neg fun h => hd ?_)⟩
        have := (hb _).1 h
        rwa [Bool.and_eq_true] at this

/-! ## The step -/

/-- Everything a run can answer. -/
theorem run_cases (s : State) :
    (s.halted = true ∧ run s = .next (s.boundary false)) ∨
    (s.halted = false ∧ ∃ i, s.inProgress = some i ∧ run s = settle i s.flags.tf (exec i { s with inProgress := none })) ∨
    (s.halted = false ∧ s.inProgress = none ∧ s.fetch = .error .truncated ∧ run s = .refused .fetchOutsideMemory) ∨
    (s.halted = false ∧ s.inProgress = none ∧ ∃ e, s.fetch = .error e ∧ e ≠ .truncated ∧
      run s = .refused (.undefinedEncoding e)) ∨
    (s.halted = false ∧ s.inProgress = none ∧ ∃ i t, s.fetch = .ok (i, t) ∧
      s.misplacedRepeat i = true ∧ run s = .refused .repeatBeforeNonString) ∨
    (s.halted = false ∧ s.inProgress = none ∧ ∃ i t, s.fetch = .ok (i, t) ∧
      s.misplacedRepeat i = false ∧ run s = settle i s.flags.tf (exec i t)) := by
  unfold run
  cases h2 : s.halted with
  | true => exact .inl ⟨rfl, rfl⟩
  | false =>
    refine .inr ?_
    cases h3 : s.inProgress with
    | some i => exact .inl ⟨rfl, i, rfl, rfl⟩
    | none =>
      refine .inr ?_
      cases h4 : s.fetch with
      | error e => cases e <;> simp
      | ok p =>
        obtain ⟨i, t⟩ := p
        cases h5 : s.misplacedRepeat i <;> simp [h5]

/-- Everything a step can answer. -/
theorem step_cases (s : State) :
    (s.pins.clr = true ∧ step s = .next s.resetEvent) ∨
    (s.pins.clr = false ∧ s.pins.clrInside = true ∧ step s = s.abandon (run s)) ∨
    (s.pins.clr = false ∧ s.pins.clrInside = false ∧ step s = s.complete (run s)) := by
  unfold step
  cases h1 : s.pins.clr <;> cases h2 : s.pins.clrInside <;> simp

/-- A step with no reset answers a next state only if its run does and something answers each bus cycle (R78). -/
theorem complete_next {s t : State} {r : Result} (h : s.complete r = .next t) :
    r = .next t ∧ (s.newCycles t).all s.answered = true := by
  cases r with
  | fault f => cases h
  | refused q => cases h
  | next u =>
    unfold State.complete at h
    dsimp only at h
    split at h
    · next hu => cases h; exact ⟨rfl, hu⟩
    · cases h

/-- Where no address is absent every run completes (R78). -/
theorem complete_of_present {s : State} (h : ∀ a, s.kindAt a ≠ .absent) (r : Result) : s.complete r = r := by
  cases r with
  | fault f => rfl
  | refused q => rfl
  | next t =>
    refine if_pos ?_
    rw [List.all_eq_true]
    intro c _
    unfold State.answered
    rw [List.all_eq_true]
    intro a _
    simpa using h a

/-- A step abandoned for a reset answers a next state only if its run does (R400). -/
theorem abandon_next {s t : State} {r : Result} (h : s.abandon r = .next t) : ∃ u, r = .next u ∧ t = s.abandoned u := by
  cases r with
  | fault f => cases h
  | refused q => cases h
  | next u => exact ⟨u, rfl, by simpa [State.abandon] using h.symm⟩

/-- Redoing a bus cycle keeps the canonical form of memory. -/
theorem redo_wf (s : State) {m : Memory} (h : m.wf = true) (c : BusCycle) : (s.redo m c).wf = true := by
  have key : ∀ (m : Memory) (a : PhysAddr) (v : Byte), m.wf = true →
      (if s.isMemory a then m.write a.toNat v else m).wf = true := by
    intro m a v hm
    split
    · exact Memory.wf_write hm v a.isLt
    · exact hm
  obtain ⟨d, g, w, l⟩ := c
  cases d <;> cases g <;> cases w <;> first | exact h | exact key _ _ _ h | exact key _ _ _ (key _ _ _ h)

/-- What some of the bus cycles store keeps the canonical form of memory. -/
theorem redo_foldl_wf (s : State) {m : Memory} (h : m.wf = true) (cs : List BusCycle) : (cs.foldl s.redo m).wf = true := by
  induction cs generalizing m with
  | nil => exact h
  | cons c rest ih => exact ih (redo_wf s h c)

/-- The cycles that happened before a reset are some of those of the step, in their order (R400). -/
theorem someCycles_sublist (n : Nat) (cs : List BusCycle) : (someCycles n cs).Sublist cs := by
  induction cs generalizing n with
  | nil => exact .slnil
  | cons c rest ih =>
    unfold someCycles
    split
    · exact (ih _).cons_cons c
    · exact (ih _).cons c

/-- Everything that can follow an instruction's answer. -/
theorem settle_cases {i : Instr} {tf0 : Bool} {r : Result} {u : State} (h : settle i tf0 r = .next u) :
    ∃ t, r = .next t ∧
      ((isPrefix i = true ∧ u = t.trim) ∨
       (isPrefix i = false ∧ t.inProgress ≠ none ∧ t.window tf0 = .next u) ∨
       (isPrefix i = false ∧ t.inProgress = none ∧ u = (t.endPrefixes.boundary tf0).trim)) := by
  cases r with
  | fault f => cases h
  | refused q => simp [settle] at h
  | next t =>
    refine ⟨t, rfl, ?_⟩
    simp only [settle] at h
    split at h
    · next hp => exact .inl ⟨hp, by simpa using h.symm⟩
    · next hp =>
      have hp' : isPrefix i = false := by simpa using hp
      split at h
      · next hi => exact .inr (.inl ⟨hp', by cases ht : t.inProgress <;> simp_all, h⟩)
      · next hi => exact .inr (.inr ⟨hp', by cases ht : t.inProgress <;> simp_all, by simpa using h.symm⟩)

/-- The window of an instruction in progress: it stays, or it is left for an interrupt (R304, R365). -/
theorem window_cases {t u : State} {tf0 : Bool} (h : t.window tf0 = .next u) :
    u = t.trim ∨ (t.twoPrefixes = false ∧
      u = (({ t with ip := t.start, inProgress := none }.endPrefixes).boundary tf0).trim) := by
  unfold State.window at h
  split at h
  · split at h
    · split at h
      · exact .inl (by simpa using h.symm)
      · cases h
    · next hp => exact .inr ⟨by simpa using hp, by simpa using h.symm⟩
  · exact .inl (by simpa using h.symm)

/-- The boundary starts at most one origin's sequence (R353). -/
theorem boundary_cases (s : State) (tf0 : Bool) :
    ∃ s0 : State, s0 = { s with shadow := false, raised := false } ∧
      (s.boundary tf0 = s0 ∨ (∃ o, s.boundary tf0 = s0.afterSequence o) ∨
       (∃ n o, s.boundary tf0 = (s0.interrupt n).afterSequence o) ∨
       (∃ n o, s.boundary tf0 = (s0.acknowledged.interrupt n).afterSequence o) ∨
       (∃ o, s.boundary tf0 = s0.takeNmi.afterSequence o)) := by
  refine ⟨_, rfl, ?_⟩
  unfold State.boundary
  dsimp only
  split
  · exact .inr (.inl ⟨tf0, rfl⟩)
  · split
    · exact .inr (.inr (.inr (.inr ⟨tf0, rfl⟩)))
    · split
      · exact .inr (.inr (.inr (.inl ⟨_, tf0, rfl⟩)))
      · split
        · exact .inr (.inr (.inl ⟨1, false, rfl⟩))
        · exact .inl rfl

end Sys2Proof.Machine
end

