-- ==== Sys2Proof/Laws/PerInstr.lean ====
section
/-!
SUPPORT. Laws stated per instruction: every encoding is 1 to 6 bytes long (R111).
-/
namespace Sys2Proof.Laws.EncodeLength

/-- The encoding of `i` has 1 to 6 bytes (R111). -/
def Statement (i : Instr) : Prop := 1 ≤ (encode i).length ∧ (encode i).length ≤ 6

theorem mem_bytes (r : BitVec 3) (m : Mem) : 1 ≤ (m.bytes r).length ∧ (m.bytes r).length ≤ 3 := by
  cases m <;> exact ⟨Nat.le_of_ble_eq_true rfl, Nat.le_of_ble_eq_true rfl⟩

theorem rm8_bytes (r : BitVec 3) (m : Rm8) : 1 ≤ (m.bytes r).length ∧ (m.bytes r).length ≤ 3 := by
  cases m with
  | reg q => exact ⟨Nat.le_of_ble_eq_true rfl, Nat.le_of_ble_eq_true rfl⟩
  | mem m => exact mem_bytes r m

theorem rm16_bytes (r : BitVec 3) (m : Rm16) : 1 ≤ (m.bytes r).length ∧ (m.bytes r).length ≤ 3 := by
  cases m with
  | reg q => exact ⟨Nat.le_of_ble_eq_true rfl, Nat.le_of_ble_eq_true rfl⟩
  | mem m => exact mem_bytes r m

/-- A first byte, a postbyte with its displacement, and at most two bytes of immediate. -/
theorem of_parts {i : Instr} {b : Byte} {p q : List Byte} (h : encode i = b :: p ++ q)
    (hp : 1 ≤ p.length ∧ p.length ≤ 3) (hq : q.length ≤ 2) : Statement i := by
  unfold Statement
  rw [h]
  simp only [List.length_append, List.length_cons]
  omega

/-- A first byte and a postbyte with its displacement. -/
theorem of_postbyte {i : Instr} {b : Byte} {p : List Byte} (h : encode i = b :: p)
    (hp : 1 ≤ p.length ∧ p.length ≤ 3) : Statement i :=
  of_parts (q := []) (h.trans (List.append_nil _).symm) hp (by decide)

theorem addRm8R8 (m : Rm8) (r : Reg8) : Statement (.addRm8R8 m r) :=
  of_postbyte rfl (rm8_bytes _ m)
theorem addRm16R16 (m : Rm16) (r : Reg16) : Statement (.addRm16R16 m r) :=
  of_postbyte rfl (rm16_bytes _ m)
theorem addR8Rm8 (r : Reg8) (m : Rm8) : Statement (.addR8Rm8 r m) :=
  of_postbyte rfl (rm8_bytes _ m)
theorem addR16Rm16 (r : Reg16) (m : Rm16) : Statement (.addR16Rm16 r m) :=
  of_postbyte rfl (rm16_bytes _ m)
theorem addAlImm8 (v : Byte) : Statement (.addAlImm8 v) :=
  ⟨Nat.le_of_ble_eq_true rfl, Nat.le_of_ble_eq_true rfl⟩
theorem addAxImm16 (v : Word) : Statement (.addAxImm16 v) :=
  ⟨Nat.le_of_ble_eq_true rfl, Nat.le_of_ble_eq_true rfl⟩
theorem orRm8R8 (m : Rm8) (r : Reg8) : Statement (.orRm8R8 m r) :=
  of_postbyte rfl (rm8_bytes _ m)
theorem orRm16R16 (m : Rm16) (r : Reg16) : Statement (.orRm16R16 m r) :=
  of_postbyte rfl (rm16_bytes _ m)
theorem orR8Rm8 (r : Reg8) (m : Rm8) : Statement (.orR8Rm8 r m) :=
  of_postbyte rfl (rm8_bytes _ m)
theorem orR16Rm16 (r : Reg16) (m : Rm16) : Statement (.orR16Rm16 r m) :=
  of_postbyte rfl (rm16_bytes _ m)
theorem orAlImm8 (v : Byte) : Statement (.orAlImm8 v) :=
  ⟨Nat.le_of_ble_eq_true rfl, Nat.le_of_ble_eq_true rfl⟩
theorem orAxImm16 (v : Word) : Statement (.orAxImm16 v) :=
  ⟨Nat.le_of_ble_eq_true rfl, Nat.le_of_ble_eq_true rfl⟩
theorem adcRm8R8 (m : Rm8) (r : Reg8) : Statement (.adcRm8R8 m r) :=
  of_postbyte rfl (rm8_bytes _ m)
theorem adcRm16R16 (m : Rm16) (r : Reg16) : Statement (.adcRm16R16 m r) :=
  of_postbyte rfl (rm16_bytes _ m)
theorem adcR8Rm8 (r : Reg8) (m : Rm8) : Statement (.adcR8Rm8 r m) :=
  of_postbyte rfl (rm8_bytes _ m)
theorem adcR16Rm16 (r : Reg16) (m : Rm16) : Statement (.adcR16Rm16 r m) :=
  of_postbyte rfl (rm16_bytes _ m)
theorem adcAlImm8 (v : Byte) : Statement (.adcAlImm8 v) :=
  ⟨Nat.le_of_ble_eq_true rfl, Nat.le_of_ble_eq_true rfl⟩
theorem adcAxImm16 (v : Word) : Statement (.adcAxImm16 v) :=
  ⟨Nat.le_of_ble_eq_true rfl, Nat.le_of_ble_eq_true rfl⟩
theorem sbbRm8R8 (m : Rm8) (r : Reg8) : Statement (.sbbRm8R8 m r) :=
  of_postbyte rfl (rm8_bytes _ m)
theorem sbbRm16R16 (m : Rm16) (r : Reg16) : Statement (.sbbRm16R16 m r) :=
  of_postbyte rfl (rm16_bytes _ m)
theorem sbbR8Rm8 (r : Reg8) (m : Rm8) : Statement (.sbbR8Rm8 r m) :=
  of_postbyte rfl (rm8_bytes _ m)
theorem sbbR16Rm16 (r : Reg16) (m : Rm16) : Statement (.sbbR16Rm16 r m) :=
  of_postbyte rfl (rm16_bytes _ m)
theorem sbbAlImm8 (v : Byte) : Statement (.sbbAlImm8 v) :=
  ⟨Nat.le_of_ble_eq_true rfl, Nat.le_of_ble_eq_true rfl⟩
theorem sbbAxImm16 (v : Word) : Statement (.sbbAxImm16 v) :=
  ⟨Nat.le_of_ble_eq_true rfl, Nat.le_of_ble_eq_true rfl⟩
theorem andRm8R8 (m : Rm8) (r : Reg8) : Statement (.andRm8R8 m r) :=
  of_postbyte rfl (rm8_bytes _ m)
theorem andRm16R16 (m : Rm16) (r : Reg16) : Statement (.andRm16R16 m r) :=
  of_postbyte rfl (rm16_bytes _ m)
theorem andR8Rm8 (r : Reg8) (m : Rm8) : Statement (.andR8Rm8 r m) :=
  of_postbyte rfl (rm8_bytes _ m)
theorem andR16Rm16 (r : Reg16) (m : Rm16) : Statement (.andR16Rm16 r m) :=
  of_postbyte rfl (rm16_bytes _ m)
theorem andAlImm8 (v : Byte) : Statement (.andAlImm8 v) :=
  ⟨Nat.le_of_ble_eq_true rfl, Nat.le_of_ble_eq_true rfl⟩
theorem andAxImm16 (v : Word) : Statement (.andAxImm16 v) :=
  ⟨Nat.le_of_ble_eq_true rfl, Nat.le_of_ble_eq_true rfl⟩
theorem subRm8R8 (m : Rm8) (r : Reg8) : Statement (.subRm8R8 m r) :=
  of_postbyte rfl (rm8_bytes _ m)
theorem subRm16R16 (m : Rm16) (r : Reg16) : Statement (.subRm16R16 m r) :=
  of_postbyte rfl (rm16_bytes _ m)
theorem subR8Rm8 (r : Reg8) (m : Rm8) : Statement (.subR8Rm8 r m) :=
  of_postbyte rfl (rm8_bytes _ m)
theorem subR16Rm16 (r : Reg16) (m : Rm16) : Statement (.subR16Rm16 r m) :=
  of_postbyte rfl (rm16_bytes _ m)
theorem subAlImm8 (v : Byte) : Statement (.subAlImm8 v) :=
  ⟨Nat.le_of_ble_eq_true rfl, Nat.le_of_ble_eq_true rfl⟩
theorem subAxImm16 (v : Word) : Statement (.subAxImm16 v) :=
  ⟨Nat.le_of_ble_eq_true rfl, Nat.le_of_ble_eq_true rfl⟩
theorem xorRm8R8 (m : Rm8) (r : Reg8) : Statement (.xorRm8R8 m r) :=
  of_postbyte rfl (rm8_bytes _ m)
theorem xorRm16R16 (m : Rm16) (r : Reg16) : Statement (.xorRm16R16 m r) :=
  of_postbyte rfl (rm16_bytes _ m)
theorem xorR8Rm8 (r : Reg8) (m : Rm8) : Statement (.xorR8Rm8 r m) :=
  of_postbyte rfl (rm8_bytes _ m)
theorem xorR16Rm16 (r : Reg16) (m : Rm16) : Statement (.xorR16Rm16 r m) :=
  of_postbyte rfl (rm16_bytes _ m)
theorem xorAlImm8 (v : Byte) : Statement (.xorAlImm8 v) :=
  ⟨Nat.le_of_ble_eq_true rfl, Nat.le_of_ble_eq_true rfl⟩
theorem xorAxImm16 (v : Word) : Statement (.xorAxImm16 v) :=
  ⟨Nat.le_of_ble_eq_true rfl, Nat.le_of_ble_eq_true rfl⟩
theorem cmpRm8R8 (m : Rm8) (r : Reg8) : Statement (.cmpRm8R8 m r) :=
  of_postbyte rfl (rm8_bytes _ m)
theorem cmpRm16R16 (m : Rm16) (r : Reg16) : Statement (.cmpRm16R16 m r) :=
  of_postbyte rfl (rm16_bytes _ m)
theorem cmpR8Rm8 (r : Reg8) (m : Rm8) : Statement (.cmpR8Rm8 r m) :=
  of_postbyte rfl (rm8_bytes _ m)
theorem cmpR16Rm16 (r : Reg16) (m : Rm16) : Statement (.cmpR16Rm16 r m) :=
  of_postbyte rfl (rm16_bytes _ m)
theorem cmpAlImm8 (v : Byte) : Statement (.cmpAlImm8 v) :=
  ⟨Nat.le_of_ble_eq_true rfl, Nat.le_of_ble_eq_true rfl⟩
theorem cmpAxImm16 (v : Word) : Statement (.cmpAxImm16 v) :=
  ⟨Nat.le_of_ble_eq_true rfl, Nat.le_of_ble_eq_true rfl⟩
theorem incR16 (r : Reg16) : Statement (.incR16 r) :=
  ⟨Nat.le_of_ble_eq_true rfl, Nat.le_of_ble_eq_true rfl⟩
theorem decR16 (r : Reg16) : Statement (.decR16 r) :=
  ⟨Nat.le_of_ble_eq_true rfl, Nat.le_of_ble_eq_true rfl⟩
theorem pushR16 (r : Reg16) : Statement (.pushR16 r) :=
  ⟨Nat.le_of_ble_eq_true rfl, Nat.le_of_ble_eq_true rfl⟩
theorem popR16 (r : Reg16) : Statement (.popR16 r) :=
  ⟨Nat.le_of_ble_eq_true rfl, Nat.le_of_ble_eq_true rfl⟩
theorem jo (rel : Byte) : Statement (.jo rel) :=
  ⟨Nat.le_of_ble_eq_true rfl, Nat.le_of_ble_eq_true rfl⟩
theorem jno (rel : Byte) : Statement (.jno rel) :=
  ⟨Nat.le_of_ble_eq_true rfl, Nat.le_of_ble_eq_true rfl⟩
theorem jb (rel : Byte) : Statement (.jb rel) :=
  ⟨Nat.le_of_ble_eq_true rfl, Nat.le_of_ble_eq_true rfl⟩
theorem jae (rel : Byte) : Statement (.jae rel) :=
  ⟨Nat.le_of_ble_eq_true rfl, Nat.le_of_ble_eq_true rfl⟩
theorem je (rel : Byte) : Statement (.je rel) :=
  ⟨Nat.le_of_ble_eq_true rfl, Nat.le_of_ble_eq_true rfl⟩
theorem jne (rel : Byte) : Statement (.jne rel) :=
  ⟨Nat.le_of_ble_eq_true rfl, Nat.le_of_ble_eq_true rfl⟩
theorem jbe (rel : Byte) : Statement (.jbe rel) :=
  ⟨Nat.le_of_ble_eq_true rfl, Nat.le_of_ble_eq_true rfl⟩
theorem ja (rel : Byte) : Statement (.ja rel) :=
  ⟨Nat.le_of_ble_eq_true rfl, Nat.le_of_ble_eq_true rfl⟩
theorem js (rel : Byte) : Statement (.js rel) :=
  ⟨Nat.le_of_ble_eq_true rfl, Nat.le_of_ble_eq_true rfl⟩
theorem jns (rel : Byte) : Statement (.jns rel) :=
  ⟨Nat.le_of_ble_eq_true rfl, Nat.le_of_ble_eq_true rfl⟩
theorem jp (rel : Byte) : Statement (.jp rel) :=
  ⟨Nat.le_of_ble_eq_true rfl, Nat.le_of_ble_eq_true rfl⟩
theorem jnp (rel : Byte) : Statement (.jnp rel) :=
  ⟨Nat.le_of_ble_eq_true rfl, Nat.le_of_ble_eq_true rfl⟩
theorem jl (rel : Byte) : Statement (.jl rel) :=
  ⟨Nat.le_of_ble_eq_true rfl, Nat.le_of_ble_eq_true rfl⟩
theorem jge (rel : Byte) : Statement (.jge rel) :=
  ⟨Nat.le_of_ble_eq_true rfl, Nat.le_of_ble_eq_true rfl⟩
theorem jle (rel : Byte) : Statement (.jle rel) :=
  ⟨Nat.le_of_ble_eq_true rfl, Nat.le_of_ble_eq_true rfl⟩
theorem jg (rel : Byte) : Statement (.jg rel) :=
  ⟨Nat.le_of_ble_eq_true rfl, Nat.le_of_ble_eq_true rfl⟩
theorem addRm8Imm8 (m : Rm8) (v : Byte) : Statement (.addRm8Imm8 m v) :=
  of_parts rfl (rm8_bytes _ m) (Nat.le_of_ble_eq_true rfl)
theorem addRm16Imm16 (m : Rm16) (v : Word) : Statement (.addRm16Imm16 m v) :=
  of_parts rfl (rm16_bytes _ m) (Nat.le_of_ble_eq_true rfl)
theorem addRm8Imm8Alt (m : Rm8) (v : Byte) : Statement (.addRm8Imm8Alt m v) :=
  of_parts rfl (rm8_bytes _ m) (Nat.le_of_ble_eq_true rfl)
theorem addRm16SImm8 (m : Rm16) (v : Byte) : Statement (.addRm16SImm8 m v) :=
  of_parts rfl (rm16_bytes _ m) (Nat.le_of_ble_eq_true rfl)
theorem orRm8Imm8 (m : Rm8) (v : Byte) : Statement (.orRm8Imm8 m v) :=
  of_parts rfl (rm8_bytes _ m) (Nat.le_of_ble_eq_true rfl)
theorem orRm16Imm16 (m : Rm16) (v : Word) : Statement (.orRm16Imm16 m v) :=
  of_parts rfl (rm16_bytes _ m) (Nat.le_of_ble_eq_true rfl)
theorem adcRm8Imm8 (m : Rm8) (v : Byte) : Statement (.adcRm8Imm8 m v) :=
  of_parts rfl (rm8_bytes _ m) (Nat.le_of_ble_eq_true rfl)
theorem adcRm16Imm16 (m : Rm16) (v : Word) : Statement (.adcRm16Imm16 m v) :=
  of_parts rfl (rm16_bytes _ m) (Nat.le_of_ble_eq_true rfl)
theorem adcRm8Imm8Alt (m : Rm8) (v : Byte) : Statement (.adcRm8Imm8Alt m v) :=
  of_parts rfl (rm8_bytes _ m) (Nat.le_of_ble_eq_true rfl)
theorem adcRm16SImm8 (m : Rm16) (v : Byte) : Statement (.adcRm16SImm8 m v) :=
  of_parts rfl (rm16_bytes _ m) (Nat.le_of_ble_eq_true rfl)
theorem sbbRm8Imm8 (m : Rm8) (v : Byte) : Statement (.sbbRm8Imm8 m v) :=
  of_parts rfl (rm8_bytes _ m) (Nat.le_of_ble_eq_true rfl)
theorem sbbRm16Imm16 (m : Rm16) (v : Word) : Statement (.sbbRm16Imm16 m v) :=
  of_parts rfl (rm16_bytes _ m) (Nat.le_of_ble_eq_true rfl)
theorem sbbRm8Imm8Alt (m : Rm8) (v : Byte) : Statement (.sbbRm8Imm8Alt m v) :=
  of_parts rfl (rm8_bytes _ m) (Nat.le_of_ble_eq_true rfl)
theorem sbbRm16SImm8 (m : Rm16) (v : Byte) : Statement (.sbbRm16SImm8 m v) :=
  of_parts rfl (rm16_bytes _ m) (Nat.le_of_ble_eq_true rfl)
theorem andRm8Imm8 (m : Rm8) (v : Byte) : Statement (.andRm8Imm8 m v) :=
  of_parts rfl (rm8_bytes _ m) (Nat.le_of_ble_eq_true rfl)
theorem andRm16Imm16 (m : Rm16) (v : Word) : Statement (.andRm16Imm16 m v) :=
  of_parts rfl (rm16_bytes _ m) (Nat.le_of_ble_eq_true rfl)
theorem subRm8Imm8 (m : Rm8) (v : Byte) : Statement (.subRm8Imm8 m v) :=
  of_parts rfl (rm8_bytes _ m) (Nat.le_of_ble_eq_true rfl)
theorem subRm16Imm16 (m : Rm16) (v : Word) : Statement (.subRm16Imm16 m v) :=
  of_parts rfl (rm16_bytes _ m) (Nat.le_of_ble_eq_true rfl)
theorem subRm8Imm8Alt (m : Rm8) (v : Byte) : Statement (.subRm8Imm8Alt m v) :=
  of_parts rfl (rm8_bytes _ m) (Nat.le_of_ble_eq_true rfl)
theorem subRm16SImm8 (m : Rm16) (v : Byte) : Statement (.subRm16SImm8 m v) :=
  of_parts rfl (rm16_bytes _ m) (Nat.le_of_ble_eq_true rfl)
theorem xorRm8Imm8 (m : Rm8) (v : Byte) : Statement (.xorRm8Imm8 m v) :=
  of_parts rfl (rm8_bytes _ m) (Nat.le_of_ble_eq_true rfl)
theorem xorRm16Imm16 (m : Rm16) (v : Word) : Statement (.xorRm16Imm16 m v) :=
  of_parts rfl (rm16_bytes _ m) (Nat.le_of_ble_eq_true rfl)
theorem cmpRm8Imm8 (m : Rm8) (v : Byte) : Statement (.cmpRm8Imm8 m v) :=
  of_parts rfl (rm8_bytes _ m) (Nat.le_of_ble_eq_true rfl)
theorem cmpRm16Imm16 (m : Rm16) (v : Word) : Statement (.cmpRm16Imm16 m v) :=
  of_parts rfl (rm16_bytes _ m) (Nat.le_of_ble_eq_true rfl)
theorem cmpRm8Imm8Alt (m : Rm8) (v : Byte) : Statement (.cmpRm8Imm8Alt m v) :=
  of_parts rfl (rm8_bytes _ m) (Nat.le_of_ble_eq_true rfl)
theorem cmpRm16SImm8 (m : Rm16) (v : Byte) : Statement (.cmpRm16SImm8 m v) :=
  of_parts rfl (rm16_bytes _ m) (Nat.le_of_ble_eq_true rfl)
theorem testRm8R8 (m : Rm8) (r : Reg8) : Statement (.testRm8R8 m r) :=
  of_postbyte rfl (rm8_bytes _ m)
theorem testRm16R16 (m : Rm16) (r : Reg16) : Statement (.testRm16R16 m r) :=
  of_postbyte rfl (rm16_bytes _ m)
theorem xchgR8Rm8 (r : Reg8) (m : Rm8) : Statement (.xchgR8Rm8 r m) :=
  of_postbyte rfl (rm8_bytes _ m)
theorem xchgR16Rm16 (r : Reg16) (m : Rm16) : Statement (.xchgR16Rm16 r m) :=
  of_postbyte rfl (rm16_bytes _ m)
theorem movRm8R8 (m : Rm8) (r : Reg8) : Statement (.movRm8R8 m r) :=
  of_postbyte rfl (rm8_bytes _ m)
theorem movRm16R16 (m : Rm16) (r : Reg16) : Statement (.movRm16R16 m r) :=
  of_postbyte rfl (rm16_bytes _ m)
theorem movR8Rm8 (r : Reg8) (m : Rm8) : Statement (.movR8Rm8 r m) :=
  of_postbyte rfl (rm8_bytes _ m)
theorem movR16Rm16 (r : Reg16) (m : Rm16) : Statement (.movR16Rm16 r m) :=
  of_postbyte rfl (rm16_bytes _ m)
theorem movRm16Sreg (m : Rm16) (r : SReg) : Statement (.movRm16Sreg m r) :=
  of_postbyte rfl (rm16_bytes _ m)
theorem lea (r : Reg16) (m : Mem) : Statement (.lea r m) :=
  of_postbyte rfl (mem_bytes _ m)
theorem movEsRm16 (m : Rm16) : Statement (.movEsRm16 m) :=
  of_postbyte rfl (rm16_bytes _ m)
theorem movSsRm16 (m : Rm16) : Statement (.movSsRm16 m) :=
  of_postbyte rfl (rm16_bytes _ m)
theorem movDsRm16 (m : Rm16) : Statement (.movDsRm16 m) :=
  of_postbyte rfl (rm16_bytes _ m)
theorem popRm16 (m : Rm16) : Statement (.popRm16 m) :=
  of_postbyte rfl (rm16_bytes _ m)
theorem callFar (off : Word) (seg : Word) : Statement (.callFar off seg) :=
  ⟨Nat.le_of_ble_eq_true rfl, Nat.le_of_ble_eq_true rfl⟩
theorem movAlAddr (a : Word) : Statement (.movAlAddr a) :=
  ⟨Nat.le_of_ble_eq_true rfl, Nat.le_of_ble_eq_true rfl⟩
theorem movAxAddr (a : Word) : Statement (.movAxAddr a) :=
  ⟨Nat.le_of_ble_eq_true rfl, Nat.le_of_ble_eq_true rfl⟩
theorem movAddrAl (a : Word) : Statement (.movAddrAl a) :=
  ⟨Nat.le_of_ble_eq_true rfl, Nat.le_of_ble_eq_true rfl⟩
theorem movAddrAx (a : Word) : Statement (.movAddrAx a) :=
  ⟨Nat.le_of_ble_eq_true rfl, Nat.le_of_ble_eq_true rfl⟩
theorem testAlImm8 (v : Byte) : Statement (.testAlImm8 v) :=
  ⟨Nat.le_of_ble_eq_true rfl, Nat.le_of_ble_eq_true rfl⟩
theorem testAxImm16 (v : Word) : Statement (.testAxImm16 v) :=
  ⟨Nat.le_of_ble_eq_true rfl, Nat.le_of_ble_eq_true rfl⟩
theorem movR8Imm8 (r : Reg8) (v : Byte) : Statement (.movR8Imm8 r v) :=
  ⟨Nat.le_of_ble_eq_true rfl, Nat.le_of_ble_eq_true rfl⟩
theorem movR16Imm16 (r : Reg16) (v : Word) : Statement (.movR16Imm16 r v) :=
  ⟨Nat.le_of_ble_eq_true rfl, Nat.le_of_ble_eq_true rfl⟩
theorem retNearN (n : Word) : Statement (.retNearN n) :=
  ⟨Nat.le_of_ble_eq_true rfl, Nat.le_of_ble_eq_true rfl⟩
theorem les (r : Reg16) (m : Mem) : Statement (.les r m) :=
  of_postbyte rfl (mem_bytes _ m)
theorem lds (r : Reg16) (m : Mem) : Statement (.lds r m) :=
  of_postbyte rfl (mem_bytes _ m)
theorem movRm8Imm8 (m : Rm8) (v : Byte) : Statement (.movRm8Imm8 m v) :=
  of_parts rfl (rm8_bytes _ m) (Nat.le_of_ble_eq_true rfl)
theorem movRm16Imm16 (m : Rm16) (v : Word) : Statement (.movRm16Imm16 m v) :=
  of_parts rfl (rm16_bytes _ m) (Nat.le_of_ble_eq_true rfl)
theorem retFarN (n : Word) : Statement (.retFarN n) :=
  ⟨Nat.le_of_ble_eq_true rfl, Nat.le_of_ble_eq_true rfl⟩
theorem intN (t : Byte) : Statement (.intN t) :=
  ⟨Nat.le_of_ble_eq_true rfl, Nat.le_of_ble_eq_true rfl⟩
theorem rolRm8One (m : Rm8) : Statement (.rolRm8One m) :=
  of_postbyte rfl (rm8_bytes _ m)
theorem rorRm8One (m : Rm8) : Statement (.rorRm8One m) :=
  of_postbyte rfl (rm8_bytes _ m)
theorem rclRm8One (m : Rm8) : Statement (.rclRm8One m) :=
  of_postbyte rfl (rm8_bytes _ m)
theorem rcrRm8One (m : Rm8) : Statement (.rcrRm8One m) :=
  of_postbyte rfl (rm8_bytes _ m)
theorem shlRm8One (m : Rm8) : Statement (.shlRm8One m) :=
  of_postbyte rfl (rm8_bytes _ m)
theorem shrRm8One (m : Rm8) : Statement (.shrRm8One m) :=
  of_postbyte rfl (rm8_bytes _ m)
theorem sarRm8One (m : Rm8) : Statement (.sarRm8One m) :=
  of_postbyte rfl (rm8_bytes _ m)
theorem rolRm16One (m : Rm16) : Statement (.rolRm16One m) :=
  of_postbyte rfl (rm16_bytes _ m)
theorem rorRm16One (m : Rm16) : Statement (.rorRm16One m) :=
  of_postbyte rfl (rm16_bytes _ m)
theorem rclRm16One (m : Rm16) : Statement (.rclRm16One m) :=
  of_postbyte rfl (rm16_bytes _ m)
theorem rcrRm16One (m : Rm16) : Statement (.rcrRm16One m) :=
  of_postbyte rfl (rm16_bytes _ m)
theorem shlRm16One (m : Rm16) : Statement (.shlRm16One m) :=
  of_postbyte rfl (rm16_bytes _ m)
theorem shrRm16One (m : Rm16) : Statement (.shrRm16One m) :=
  of_postbyte rfl (rm16_bytes _ m)
theorem sarRm16One (m : Rm16) : Statement (.sarRm16One m) :=
  of_postbyte rfl (rm16_bytes _ m)
theorem rolRm8Cl (m : Rm8) : Statement (.rolRm8Cl m) :=
  of_postbyte rfl (rm8_bytes _ m)
theorem rorRm8Cl (m : Rm8) : Statement (.rorRm8Cl m) :=
  of_postbyte rfl (rm8_bytes _ m)
theorem rclRm8Cl (m : Rm8) : Statement (.rclRm8Cl m) :=
  of_postbyte rfl (rm8_bytes _ m)
theorem rcrRm8Cl (m : Rm8) : Statement (.rcrRm8Cl m) :=
  of_postbyte rfl (rm8_bytes _ m)
theorem shlRm8Cl (m : Rm8) : Statement (.shlRm8Cl m) :=
  of_postbyte rfl (rm8_bytes _ m)
theorem shrRm8Cl (m : Rm8) : Statement (.shrRm8Cl m) :=
  of_postbyte rfl (rm8_bytes _ m)
theorem sarRm8Cl (m : Rm8) : Statement (.sarRm8Cl m) :=
  of_postbyte rfl (rm8_bytes _ m)
theorem rolRm16Cl (m : Rm16) : Statement (.rolRm16Cl m) :=
  of_postbyte rfl (rm16_bytes _ m)
theorem rorRm16Cl (m : Rm16) : Statement (.rorRm16Cl m) :=
  of_postbyte rfl (rm16_bytes _ m)
theorem rclRm16Cl (m : Rm16) : Statement (.rclRm16Cl m) :=
  of_postbyte rfl (rm16_bytes _ m)
theorem rcrRm16Cl (m : Rm16) : Statement (.rcrRm16Cl m) :=
  of_postbyte rfl (rm16_bytes _ m)
theorem shlRm16Cl (m : Rm16) : Statement (.shlRm16Cl m) :=
  of_postbyte rfl (rm16_bytes _ m)
theorem shrRm16Cl (m : Rm16) : Statement (.shrRm16Cl m) :=
  of_postbyte rfl (rm16_bytes _ m)
theorem sarRm16Cl (m : Rm16) : Statement (.sarRm16Cl m) :=
  of_postbyte rfl (rm16_bytes _ m)
theorem esc (hi : BitVec 3) (lo : BitVec 3) (m : Rm16) : Statement (.esc hi lo m) :=
  of_postbyte rfl (rm16_bytes _ m)
theorem loopne (rel : Byte) : Statement (.loopne rel) :=
  ⟨Nat.le_of_ble_eq_true rfl, Nat.le_of_ble_eq_true rfl⟩
theorem loope (rel : Byte) : Statement (.loope rel) :=
  ⟨Nat.le_of_ble_eq_true rfl, Nat.le_of_ble_eq_true rfl⟩
theorem loop (rel : Byte) : Statement (.loop rel) :=
  ⟨Nat.le_of_ble_eq_true rfl, Nat.le_of_ble_eq_true rfl⟩
theorem jcxz (rel : Byte) : Statement (.jcxz rel) :=
  ⟨Nat.le_of_ble_eq_true rfl, Nat.le_of_ble_eq_true rfl⟩
theorem inAlPort (p : Byte) : Statement (.inAlPort p) :=
  ⟨Nat.le_of_ble_eq_true rfl, Nat.le_of_ble_eq_true rfl⟩
theorem inAxPort (p : Byte) : Statement (.inAxPort p) :=
  ⟨Nat.le_of_ble_eq_true rfl, Nat.le_of_ble_eq_true rfl⟩
theorem outPortAl (p : Byte) : Statement (.outPortAl p) :=
  ⟨Nat.le_of_ble_eq_true rfl, Nat.le_of_ble_eq_true rfl⟩
theorem outPortAx (p : Byte) : Statement (.outPortAx p) :=
  ⟨Nat.le_of_ble_eq_true rfl, Nat.le_of_ble_eq_true rfl⟩
theorem callNear (rel : Word) : Statement (.callNear rel) :=
  ⟨Nat.le_of_ble_eq_true rfl, Nat.le_of_ble_eq_true rfl⟩
theorem jmpNear (rel : Word) : Statement (.jmpNear rel) :=
  ⟨Nat.le_of_ble_eq_true rfl, Nat.le_of_ble_eq_true rfl⟩
theorem jmpFar (off : Word) (seg : Word) : Statement (.jmpFar off seg) :=
  ⟨Nat.le_of_ble_eq_true rfl, Nat.le_of_ble_eq_true rfl⟩
theorem jmpShort (rel : Byte) : Statement (.jmpShort rel) :=
  ⟨Nat.le_of_ble_eq_true rfl, Nat.le_of_ble_eq_true rfl⟩
theorem testRm8Imm8 (m : Rm8) (v : Byte) : Statement (.testRm8Imm8 m v) :=
  of_parts rfl (rm8_bytes _ m) (Nat.le_of_ble_eq_true rfl)
theorem notRm8 (m : Rm8) : Statement (.notRm8 m) :=
  of_postbyte rfl (rm8_bytes _ m)
theorem negRm8 (m : Rm8) : Statement (.negRm8 m) :=
  of_postbyte rfl (rm8_bytes _ m)
theorem mulRm8 (m : Rm8) : Statement (.mulRm8 m) :=
  of_postbyte rfl (rm8_bytes _ m)
theorem imulRm8 (m : Rm8) : Statement (.imulRm8 m) :=
  of_postbyte rfl (rm8_bytes _ m)
theorem divRm8 (m : Rm8) : Statement (.divRm8 m) :=
  of_postbyte rfl (rm8_bytes _ m)
theorem idivRm8 (m : Rm8) : Statement (.idivRm8 m) :=
  of_postbyte rfl (rm8_bytes _ m)
theorem testRm16Imm16 (m : Rm16) (v : Word) : Statement (.testRm16Imm16 m v) :=
  of_parts rfl (rm16_bytes _ m) (Nat.le_of_ble_eq_true rfl)
theorem notRm16 (m : Rm16) : Statement (.notRm16 m) :=
  of_postbyte rfl (rm16_bytes _ m)
theorem negRm16 (m : Rm16) : Statement (.negRm16 m) :=
  of_postbyte rfl (rm16_bytes _ m)
theorem mulRm16 (m : Rm16) : Statement (.mulRm16 m) :=
  of_postbyte rfl (rm16_bytes _ m)
theorem imulRm16 (m : Rm16) : Statement (.imulRm16 m) :=
  of_postbyte rfl (rm16_bytes _ m)
theorem divRm16 (m : Rm16) : Statement (.divRm16 m) :=
  of_postbyte rfl (rm16_bytes _ m)
theorem idivRm16 (m : Rm16) : Statement (.idivRm16 m) :=
  of_postbyte rfl (rm16_bytes _ m)
theorem incRm8 (m : Rm8) : Statement (.incRm8 m) :=
  of_postbyte rfl (rm8_bytes _ m)
theorem decRm8 (m : Rm8) : Statement (.decRm8 m) :=
  of_postbyte rfl (rm8_bytes _ m)
theorem incRm16 (m : Rm16) : Statement (.incRm16 m) :=
  of_postbyte rfl (rm16_bytes _ m)
theorem decRm16 (m : Rm16) : Statement (.decRm16 m) :=
  of_postbyte rfl (rm16_bytes _ m)
theorem callRm16 (m : Rm16) : Statement (.callRm16 m) :=
  of_postbyte rfl (rm16_bytes _ m)
theorem callMem (m : Mem) : Statement (.callMem m) :=
  of_postbyte rfl (mem_bytes _ m)
theorem jmpRm16 (m : Rm16) : Statement (.jmpRm16 m) :=
  of_postbyte rfl (rm16_bytes _ m)
theorem jmpMem (m : Mem) : Statement (.jmpMem m) :=
  of_postbyte rfl (mem_bytes _ m)
theorem pushRm16 (m : Rm16) : Statement (.pushRm16 m) :=
  of_postbyte rfl (rm16_bytes _ m)
theorem pushEs : Statement (.pushEs) :=
  ⟨Nat.le_of_ble_eq_true rfl, Nat.le_of_ble_eq_true rfl⟩
theorem popEs : Statement (.popEs) :=
  ⟨Nat.le_of_ble_eq_true rfl, Nat.le_of_ble_eq_true rfl⟩
theorem overrideEs : Statement (.overrideEs) :=
  ⟨Nat.le_of_ble_eq_true rfl, Nat.le_of_ble_eq_true rfl⟩
theorem pushCs : Statement (.pushCs) :=
  ⟨Nat.le_of_ble_eq_true rfl, Nat.le_of_ble_eq_true rfl⟩
theorem overrideCs : Statement (.overrideCs) :=
  ⟨Nat.le_of_ble_eq_true rfl, Nat.le_of_ble_eq_true rfl⟩
theorem pushSs : Statement (.pushSs) :=
  ⟨Nat.le_of_ble_eq_true rfl, Nat.le_of_ble_eq_true rfl⟩
theorem popSs : Statement (.popSs) :=
  ⟨Nat.le_of_ble_eq_true rfl, Nat.le_of_ble_eq_true rfl⟩
theorem overrideSs : Statement (.overrideSs) :=
  ⟨Nat.le_of_ble_eq_true rfl, Nat.le_of_ble_eq_true rfl⟩
theorem pushDs : Statement (.pushDs) :=
  ⟨Nat.le_of_ble_eq_true rfl, Nat.le_of_ble_eq_true rfl⟩
theorem popDs : Statement (.popDs) :=
  ⟨Nat.le_of_ble_eq_true rfl, Nat.le_of_ble_eq_true rfl⟩
theorem overrideDs : Statement (.overrideDs) :=
  ⟨Nat.le_of_ble_eq_true rfl, Nat.le_of_ble_eq_true rfl⟩
theorem daa : Statement (.daa) :=
  ⟨Nat.le_of_ble_eq_true rfl, Nat.le_of_ble_eq_true rfl⟩
theorem das : Statement (.das) :=
  ⟨Nat.le_of_ble_eq_true rfl, Nat.le_of_ble_eq_true rfl⟩
theorem aaa : Statement (.aaa) :=
  ⟨Nat.le_of_ble_eq_true rfl, Nat.le_of_ble_eq_true rfl⟩
theorem aas : Statement (.aas) :=
  ⟨Nat.le_of_ble_eq_true rfl, Nat.le_of_ble_eq_true rfl⟩
theorem nop : Statement (.nop) :=
  ⟨Nat.le_of_ble_eq_true rfl, Nat.le_of_ble_eq_true rfl⟩
theorem xchgAxCx : Statement (.xchgAxCx) :=
  ⟨Nat.le_of_ble_eq_true rfl, Nat.le_of_ble_eq_true rfl⟩
theorem xchgAxDx : Statement (.xchgAxDx) :=
  ⟨Nat.le_of_ble_eq_true rfl, Nat.le_of_ble_eq_true rfl⟩
theorem xchgAxBx : Statement (.xchgAxBx) :=
  ⟨Nat.le_of_ble_eq_true rfl, Nat.le_of_ble_eq_true rfl⟩
theorem xchgAxSp : Statement (.xchgAxSp) :=
  ⟨Nat.le_of_ble_eq_true rfl, Nat.le_of_ble_eq_true rfl⟩
theorem xchgAxBp : Statement (.xchgAxBp) :=
  ⟨Nat.le_of_ble_eq_true rfl, Nat.le_of_ble_eq_true rfl⟩
theorem xchgAxSi : Statement (.xchgAxSi) :=
  ⟨Nat.le_of_ble_eq_true rfl, Nat.le_of_ble_eq_true rfl⟩
theorem xchgAxDi : Statement (.xchgAxDi) :=
  ⟨Nat.le_of_ble_eq_true rfl, Nat.le_of_ble_eq_true rfl⟩
theorem cbw : Statement (.cbw) :=
  ⟨Nat.le_of_ble_eq_true rfl, Nat.le_of_ble_eq_true rfl⟩
theorem cwd : Statement (.cwd) :=
  ⟨Nat.le_of_ble_eq_true rfl, Nat.le_of_ble_eq_true rfl⟩
theorem wait : Statement (.wait) :=
  ⟨Nat.le_of_ble_eq_true rfl, Nat.le_of_ble_eq_true rfl⟩
theorem pushf : Statement (.pushf) :=
  ⟨Nat.le_of_ble_eq_true rfl, Nat.le_of_ble_eq_true rfl⟩
theorem popf : Statement (.popf) :=
  ⟨Nat.le_of_ble_eq_true rfl, Nat.le_of_ble_eq_true rfl⟩
theorem sahf : Statement (.sahf) :=
  ⟨Nat.le_of_ble_eq_true rfl, Nat.le_of_ble_eq_true rfl⟩
theorem lahf : Statement (.lahf) :=
  ⟨Nat.le_of_ble_eq_true rfl, Nat.le_of_ble_eq_true rfl⟩
theorem movsb : Statement (.movsb) :=
  ⟨Nat.le_of_ble_eq_true rfl, Nat.le_of_ble_eq_true rfl⟩
theorem movsw : Statement (.movsw) :=
  ⟨Nat.le_of_ble_eq_true rfl, Nat.le_of_ble_eq_true rfl⟩
theorem cmpsb : Statement (.cmpsb) :=
  ⟨Nat.le_of_ble_eq_true rfl, Nat.le_of_ble_eq_true rfl⟩
theorem cmpsw : Statement (.cmpsw) :=
  ⟨Nat.le_of_ble_eq_true rfl, Nat.le_of_ble_eq_true rfl⟩
theorem stosb : Statement (.stosb) :=
  ⟨Nat.le_of_ble_eq_true rfl, Nat.le_of_ble_eq_true rfl⟩
theorem stosw : Statement (.stosw) :=
  ⟨Nat.le_of_ble_eq_true rfl, Nat.le_of_ble_eq_true rfl⟩
theorem lodsb : Statement (.lodsb) :=
  ⟨Nat.le_of_ble_eq_true rfl, Nat.le_of_ble_eq_true rfl⟩
theorem lodsw : Statement (.lodsw) :=
  ⟨Nat.le_of_ble_eq_true rfl, Nat.le_of_ble_eq_true rfl⟩
theorem scasb : Statement (.scasb) :=
  ⟨Nat.le_of_ble_eq_true rfl, Nat.le_of_ble_eq_true rfl⟩
theorem scasw : Statement (.scasw) :=
  ⟨Nat.le_of_ble_eq_true rfl, Nat.le_of_ble_eq_true rfl⟩
theorem retNear : Statement (.retNear) :=
  ⟨Nat.le_of_ble_eq_true rfl, Nat.le_of_ble_eq_true rfl⟩
theorem retFar : Statement (.retFar) :=
  ⟨Nat.le_of_ble_eq_true rfl, Nat.le_of_ble_eq_true rfl⟩
theorem int3 : Statement (.int3) :=
  ⟨Nat.le_of_ble_eq_true rfl, Nat.le_of_ble_eq_true rfl⟩
theorem into : Statement (.into) :=
  ⟨Nat.le_of_ble_eq_true rfl, Nat.le_of_ble_eq_true rfl⟩
theorem iret : Statement (.iret) :=
  ⟨Nat.le_of_ble_eq_true rfl, Nat.le_of_ble_eq_true rfl⟩
theorem aam : Statement (.aam) :=
  ⟨Nat.le_of_ble_eq_true rfl, Nat.le_of_ble_eq_true rfl⟩
theorem aad : Statement (.aad) :=
  ⟨Nat.le_of_ble_eq_true rfl, Nat.le_of_ble_eq_true rfl⟩
theorem xlat : Statement (.xlat) :=
  ⟨Nat.le_of_ble_eq_true rfl, Nat.le_of_ble_eq_true rfl⟩
theorem inAlDx : Statement (.inAlDx) :=
  ⟨Nat.le_of_ble_eq_true rfl, Nat.le_of_ble_eq_true rfl⟩
theorem inAxDx : Statement (.inAxDx) :=
  ⟨Nat.le_of_ble_eq_true rfl, Nat.le_of_ble_eq_true rfl⟩
theorem outDxAl : Statement (.outDxAl) :=
  ⟨Nat.le_of_ble_eq_true rfl, Nat.le_of_ble_eq_true rfl⟩
theorem outDxAx : Statement (.outDxAx) :=
  ⟨Nat.le_of_ble_eq_true rfl, Nat.le_of_ble_eq_true rfl⟩
theorem lockPrefix : Statement (.lockPrefix) :=
  ⟨Nat.le_of_ble_eq_true rfl, Nat.le_of_ble_eq_true rfl⟩
theorem repne : Statement (.repne) :=
  ⟨Nat.le_of_ble_eq_true rfl, Nat.le_of_ble_eq_true rfl⟩
theorem rep : Statement (.rep) :=
  ⟨Nat.le_of_ble_eq_true rfl, Nat.le_of_ble_eq_true rfl⟩
theorem hlt : Statement (.hlt) :=
  ⟨Nat.le_of_ble_eq_true rfl, Nat.le_of_ble_eq_true rfl⟩
theorem cmc : Statement (.cmc) :=
  ⟨Nat.le_of_ble_eq_true rfl, Nat.le_of_ble_eq_true rfl⟩
theorem clc : Statement (.clc) :=
  ⟨Nat.le_of_ble_eq_true rfl, Nat.le_of_ble_eq_true rfl⟩
theorem stc : Statement (.stc) :=
  ⟨Nat.le_of_ble_eq_true rfl, Nat.le_of_ble_eq_true rfl⟩
theorem cli : Statement (.cli) :=
  ⟨Nat.le_of_ble_eq_true rfl, Nat.le_of_ble_eq_true rfl⟩
theorem sti : Statement (.sti) :=
  ⟨Nat.le_of_ble_eq_true rfl, Nat.le_of_ble_eq_true rfl⟩
theorem cld : Statement (.cld) :=
  ⟨Nat.le_of_ble_eq_true rfl, Nat.le_of_ble_eq_true rfl⟩
theorem std : Statement (.std) :=
  ⟨Nat.le_of_ble_eq_true rfl, Nat.le_of_ble_eq_true rfl⟩

end Sys2Proof.Laws.EncodeLength
end

