-- ==== Sys2Proof/Tests/Slice0.lean ====
section
/-!
SUPPORT. Tests: the well-formedness check, one word per constructor written out from the encodings of the spec, one small step
per instruction family from the vectors of spec/95_test_vectors.md (each name carries its vector), and, for every statement with
hypotheses, states and operands that meet them. A word whose flag bits are free values is left out of a test.
-/
namespace Sys2Proof.Tests
open Sys2Proof.Machine

/-! ## Well-formedness: the one term with no encoding is refused (R110) -/

theorem test_wellFormed_refuses_base_bp : (Mem.base .bp).wellFormed = false := by decide
theorem test_wellFormed_refuses_base_bp_in_byte_operand : (Rm8.mem (.base .bp)).wellFormed = false := by decide
theorem test_wellFormed_refuses_base_bp_in_word_operand : (Rm16.mem (.base .bp)).wellFormed = false := by decide
theorem test_wellFormed_refuses_base_bp_in_instruction :
    (Instr.movR16Rm16 .ax (.mem (.base .bp))).wellFormed = false ∧ (Instr.lea .ax (.base .bp)).wellFormed = false := by
  decide
theorem test_wellFormed_accepts_bp_with_displacement : (Instr.lea .ax (.disp8 .bp 0)).wellFormed = true := by decide

/-! ## Decoding: one word per constructor, bytes from the Encoding lines of the spec -/

/-- The bytes decode to exactly this instruction, with nothing left. -/
def reads (bs : List Byte) (i : Instr) : Bool :=
  match decode bs with
  | .ok (j, rest) => decide (j = i) && rest.isEmpty
  | .error _ => false

/-- addRm8R8 to sbbR8Rm8. -/
theorem test_decode_words_1 :
    (reads [0x00, 0xD1] (.addRm8R8 (.reg .cl) .dl) &&
     reads [0x01, 0x38] (.addRm16R16 (.mem (.base .bxSi)) .di) &&
     reads [0x02, 0x63, 0xF1] (.addR8Rm8 .ah (.mem (.disp8 .bpDi 0xF1))) &&
     reads [0x03, 0x8E, 0x34, 0x12] (.addR16Rm16 .cx (.mem (.disp16 .bp 0x1234))) &&
     reads [0x04, 0x9C] (.addAlImm8 0x9C) &&
     reads [0x05, 0xDC, 0xFE] (.addAxImm16 0xFEDC) &&
     reads [0x08, 0x01] (.orRm8R8 (.mem (.base .bxDi)) .al) &&
     reads [0x09, 0x6C, 0xF1] (.orRm16R16 (.mem (.disp8 .si 0xF1)) .bp) &&
     reads [0x0A, 0x97, 0x34, 0x12] (.orR8Rm8 .dl (.mem (.disp16 .bx 0x1234))) &&
     reads [0x0B, 0x3E, 0x78, 0x56] (.orR16Rm16 .di (.mem (.direct 0x5678))) &&
     reads [0x0C, 0x9C] (.orAlImm8 0x9C) &&
     reads [0x0D, 0xDC, 0xFE] (.orAxImm16 0xFEDC) &&
     reads [0x10, 0x75, 0xF1] (.adcRm8R8 (.mem (.disp8 .di 0xF1)) .dh) &&
     reads [0x11, 0x98, 0x34, 0x12] (.adcRm16R16 (.mem (.disp16 .bxSi 0x1234)) .bx) &&
     reads [0x12, 0x06, 0x78, 0x56] (.adcR8Rm8 .al (.mem (.direct 0x5678))) &&
     reads [0x13, 0xEE] (.adcR16Rm16 .bp (.reg .si)) &&
     reads [0x14, 0x9C] (.adcAlImm8 0x9C) &&
     reads [0x15, 0xDC, 0xFE] (.adcAxImm16 0xFEDC) &&
     reads [0x18, 0xA1, 0x34, 0x12] (.sbbRm8R8 (.mem (.disp16 .bxDi 0x1234)) .ah) &&
     reads [0x19, 0x0E, 0x78, 0x56] (.sbbRm16R16 (.mem (.direct 0x5678)) .cx) &&
     reads [0x1A, 0xF5] (.sbbR8Rm8 .dh (.reg .ch))) = true := by decide

/-- sbbR16Rm16 to xorAxImm16. -/
theorem test_decode_words_2 :
    (reads [0x1B, 0x1C] (.sbbR16Rm16 .bx (.mem (.base .si))) &&
     reads [0x1C, 0x9C] (.sbbAlImm8 0x9C) &&
     reads [0x1D, 0xDC, 0xFE] (.sbbAxImm16 0xFEDC) &&
     reads [0x20, 0x16, 0x78, 0x56] (.andRm8R8 (.mem (.direct 0x5678)) .dl) &&
     reads [0x21, 0xFC] (.andRm16R16 (.reg .sp) .di) &&
     reads [0x22, 0x25] (.andR8Rm8 .ah (.mem (.base .di))) &&
     reads [0x23, 0x48, 0xF1] (.andR16Rm16 .cx (.mem (.disp8 .bxSi 0xF1))) &&
     reads [0x24, 0x9C] (.andAlImm8 0x9C) &&
     reads [0x25, 0xDC, 0xFE] (.andAxImm16 0xFEDC) &&
     reads [0x28, 0xC3] (.subRm8R8 (.reg .bl) .al) &&
     reads [0x29, 0x2F] (.subRm16R16 (.mem (.base .bx)) .bp) &&
     reads [0x2A, 0x51, 0xF1] (.subR8Rm8 .dl (.mem (.disp8 .bxDi 0xF1))) &&
     reads [0x2B, 0xBC, 0x34, 0x12] (.subR16Rm16 .di (.mem (.disp16 .si 0x1234))) &&
     reads [0x2C, 0x9C] (.subAlImm8 0x9C) &&
     reads [0x2D, 0xDC, 0xFE] (.subAxImm16 0xFEDC) &&
     reads [0x30, 0x37] (.xorRm8R8 (.mem (.base .bx)) .dh) &&
     reads [0x31, 0x5A, 0xF1] (.xorRm16R16 (.mem (.disp8 .bpSi 0xF1)) .bx) &&
     reads [0x32, 0x85, 0x34, 0x12] (.xorR8Rm8 .al (.mem (.disp16 .di 0x1234))) &&
     reads [0x33, 0x2E, 0x78, 0x56] (.xorR16Rm16 .bp (.mem (.direct 0x5678))) &&
     reads [0x34, 0x9C] (.xorAlImm8 0x9C) &&
     reads [0x35, 0xDC, 0xFE] (.xorAxImm16 0xFEDC)) = true := by decide

/-- cmpRm8R8 to jp. -/
theorem test_decode_words_3 :
    (reads [0x38, 0x63, 0xF1] (.cmpRm8R8 (.mem (.disp8 .bpDi 0xF1)) .ah) &&
     reads [0x39, 0x8E, 0x34, 0x12] (.cmpRm16R16 (.mem (.disp16 .bp 0x1234)) .cx) &&
     reads [0x3A, 0x36, 0x78, 0x56] (.cmpR8Rm8 .dh (.mem (.direct 0x5678))) &&
     reads [0x3B, 0xD8] (.cmpR16Rm16 .bx (.reg .ax)) &&
     reads [0x3C, 0x9C] (.cmpAlImm8 0x9C) &&
     reads [0x3D, 0xDC, 0xFE] (.cmpAxImm16 0xFEDC) &&
     reads [0x42] (.incR16 .dx) &&
     reads [0x4D] (.decR16 .bp) &&
     reads [0x50] (.pushR16 .ax) &&
     reads [0x5B] (.popR16 .bx) &&
     reads [0x70, 0x9C] (.jo 0x9C) &&
     reads [0x71, 0x9C] (.jno 0x9C) &&
     reads [0x72, 0x9C] (.jb 0x9C) &&
     reads [0x73, 0x9C] (.jae 0x9C) &&
     reads [0x74, 0x9C] (.je 0x9C) &&
     reads [0x75, 0x9C] (.jne 0x9C) &&
     reads [0x76, 0x9C] (.jbe 0x9C) &&
     reads [0x77, 0x9C] (.ja 0x9C) &&
     reads [0x78, 0x9C] (.js 0x9C) &&
     reads [0x79, 0x9C] (.jns 0x9C) &&
     reads [0x7A, 0x9C] (.jp 0x9C)) = true := by decide

/-- jnp to andRm16Imm16. -/
theorem test_decode_words_4 :
    (reads [0x7B, 0x9C] (.jnp 0x9C) &&
     reads [0x7C, 0x9C] (.jl 0x9C) &&
     reads [0x7D, 0x9C] (.jge 0x9C) &&
     reads [0x7E, 0x9C] (.jle 0x9C) &&
     reads [0x7F, 0x9C] (.jg 0x9C) &&
     reads [0x80, 0x83, 0x34, 0x12, 0x9C] (.addRm8Imm8 (.mem (.disp16 .bpDi 0x1234)) 0x9C) &&
     reads [0x81, 0x06, 0x78, 0x56, 0xDC, 0xFE] (.addRm16Imm16 (.mem (.direct 0x5678)) 0xFEDC) &&
     reads [0x82, 0xC3, 0x9C] (.addRm8Imm8Alt (.reg .bl) 0x9C) &&
     reads [0x83, 0x07, 0x9C] (.addRm16SImm8 (.mem (.base .bx)) 0x9C) &&
     reads [0x80, 0x49, 0xF1, 0x9C] (.orRm8Imm8 (.mem (.disp8 .bxDi 0xF1)) 0x9C) &&
     reads [0x81, 0x8C, 0x34, 0x12, 0xDC, 0xFE] (.orRm16Imm16 (.mem (.disp16 .si 0x1234)) 0xFEDC) &&
     reads [0x80, 0x16, 0x78, 0x56, 0x9C] (.adcRm8Imm8 (.mem (.direct 0x5678)) 0x9C) &&
     reads [0x81, 0xD2, 0xDC, 0xFE] (.adcRm16Imm16 (.reg .dx) 0xFEDC) &&
     reads [0x82, 0x17, 0x9C] (.adcRm8Imm8Alt (.mem (.base .bx)) 0x9C) &&
     reads [0x83, 0x52, 0xF1, 0x9C] (.adcRm16SImm8 (.mem (.disp8 .bpSi 0xF1)) 0x9C) &&
     reads [0x80, 0x9D, 0x34, 0x12, 0x9C] (.sbbRm8Imm8 (.mem (.disp16 .di 0x1234)) 0x9C) &&
     reads [0x81, 0x1E, 0x78, 0x56, 0xDC, 0xFE] (.sbbRm16Imm16 (.mem (.direct 0x5678)) 0xFEDC) &&
     reads [0x82, 0xD9, 0x9C] (.sbbRm8Imm8Alt (.reg .cl) 0x9C) &&
     reads [0x83, 0x18, 0x9C] (.sbbRm16SImm8 (.mem (.base .bxSi)) 0x9C) &&
     reads [0x80, 0x63, 0xF1, 0x9C] (.andRm8Imm8 (.mem (.disp8 .bpDi 0xF1)) 0x9C) &&
     reads [0x81, 0xA6, 0x34, 0x12, 0xDC, 0xFE] (.andRm16Imm16 (.mem (.disp16 .bp 0x1234)) 0xFEDC)) = true := by decide

/-- subRm8Imm8 to movEsRm16. -/
theorem test_decode_words_5 :
    (reads [0x80, 0x2E, 0x78, 0x56, 0x9C] (.subRm8Imm8 (.mem (.direct 0x5678)) 0x9C) &&
     reads [0x81, 0xE8, 0xDC, 0xFE] (.subRm16Imm16 (.reg .ax) 0xFEDC) &&
     reads [0x82, 0x29, 0x9C] (.subRm8Imm8Alt (.mem (.base .bxDi)) 0x9C) &&
     reads [0x83, 0x6C, 0xF1, 0x9C] (.subRm16SImm8 (.mem (.disp8 .si 0xF1)) 0x9C) &&
     reads [0x80, 0xB7, 0x34, 0x12, 0x9C] (.xorRm8Imm8 (.mem (.disp16 .bx 0x1234)) 0x9C) &&
     reads [0x81, 0x36, 0x78, 0x56, 0xDC, 0xFE] (.xorRm16Imm16 (.mem (.direct 0x5678)) 0xFEDC) &&
     reads [0x80, 0xFF, 0x9C] (.cmpRm8Imm8 (.reg .bh) 0x9C) &&
     reads [0x81, 0x3A, 0xDC, 0xFE] (.cmpRm16Imm16 (.mem (.base .bpSi)) 0xFEDC) &&
     reads [0x82, 0x7D, 0xF1, 0x9C] (.cmpRm8Imm8Alt (.mem (.disp8 .di 0xF1)) 0x9C) &&
     reads [0x83, 0xB8, 0x34, 0x12, 0x9C] (.cmpRm16SImm8 (.mem (.disp16 .bxSi 0x1234)) 0x9C) &&
     reads [0x84, 0x06, 0x78, 0x56] (.testRm8R8 (.mem (.direct 0x5678)) .al) &&
     reads [0x85, 0xEE] (.testRm16R16 (.reg .si) .bp) &&
     reads [0x86, 0x13] (.xchgR8Rm8 .dl (.mem (.base .bpDi))) &&
     reads [0x87, 0x7E, 0xF1] (.xchgR16Rm16 .di (.mem (.disp8 .bp 0xF1))) &&
     reads [0x88, 0xA1, 0x34, 0x12] (.movRm8R8 (.mem (.disp16 .bxDi 0x1234)) .ah) &&
     reads [0x89, 0x0E, 0x78, 0x56] (.movRm16R16 (.mem (.direct 0x5678)) .cx) &&
     reads [0x8A, 0xF5] (.movR8Rm8 .dh (.reg .ch)) &&
     reads [0x8B, 0x1C] (.movR16Rm16 .bx (.mem (.base .si))) &&
     reads [0x8C, 0x57, 0xF1] (.movRm16Sreg (.mem (.disp8 .bx 0xF1)) .ss) &&
     reads [0x8D, 0xAA, 0x34, 0x12] (.lea .bp (.disp16 .bpSi 0x1234)) &&
     reads [0x8E, 0x06, 0x78, 0x56] (.movEsRm16 (.mem (.direct 0x5678)))) = true := by decide

/-- movSsRm16 to rorRm8One. -/
theorem test_decode_words_6 :
    (reads [0x8E, 0xD4] (.movSsRm16 (.reg .sp)) &&
     reads [0x8E, 0x1D] (.movDsRm16 (.mem (.base .di))) &&
     reads [0x8F, 0x40, 0xF1] (.popRm16 (.mem (.disp8 .bxSi 0xF1))) &&
     reads [0x9A, 0x34, 0x12, 0xCD, 0xAB] (.callFar 0x1234 0xABCD) &&
     reads [0xA0, 0xDC, 0xFE] (.movAlAddr 0xFEDC) &&
     reads [0xA1, 0xDC, 0xFE] (.movAxAddr 0xFEDC) &&
     reads [0xA2, 0xDC, 0xFE] (.movAddrAl 0xFEDC) &&
     reads [0xA3, 0xDC, 0xFE] (.movAddrAx 0xFEDC) &&
     reads [0xA8, 0x9C] (.testAlImm8 0x9C) &&
     reads [0xA9, 0xDC, 0xFE] (.testAxImm16 0xFEDC) &&
     reads [0xB3, 0x9C] (.movR8Imm8 .bl 0x9C) &&
     reads [0xBE, 0xDC, 0xFE] (.movR16Imm16 .si 0xFEDC) &&
     reads [0xC2, 0xDC, 0xFE] (.retNearN 0xFEDC) &&
     reads [0xC4, 0x85, 0x34, 0x12] (.les .ax (.disp16 .di 0x1234)) &&
     reads [0xC5, 0x2E, 0x78, 0x56] (.lds .bp (.direct 0x5678)) &&
     reads [0xC6, 0xC1, 0x9C] (.movRm8Imm8 (.reg .cl) 0x9C) &&
     reads [0xC7, 0x00, 0xDC, 0xFE] (.movRm16Imm16 (.mem (.base .bxSi)) 0xFEDC) &&
     reads [0xCA, 0xDC, 0xFE] (.retFarN 0xFEDC) &&
     reads [0xCD, 0x9C] (.intN 0x9C) &&
     reads [0xD0, 0x06, 0x78, 0x56] (.rolRm8One (.mem (.direct 0x5678))) &&
     reads [0xD0, 0xC8] (.rorRm8One (.reg .al))) = true := by decide

/-- rclRm8One to rorRm16Cl. -/
theorem test_decode_words_7 :
    (reads [0xD0, 0x11] (.rclRm8One (.mem (.base .bxDi))) &&
     reads [0xD0, 0x5C, 0xF1] (.rcrRm8One (.mem (.disp8 .si 0xF1))) &&
     reads [0xD0, 0xA7, 0x34, 0x12] (.shlRm8One (.mem (.disp16 .bx 0x1234))) &&
     reads [0xD0, 0x2E, 0x78, 0x56] (.shrRm8One (.mem (.direct 0x5678))) &&
     reads [0xD0, 0xFF] (.sarRm8One (.reg .bh)) &&
     reads [0xD1, 0x02] (.rolRm16One (.mem (.base .bpSi))) &&
     reads [0xD1, 0x4D, 0xF1] (.rorRm16One (.mem (.disp8 .di 0xF1))) &&
     reads [0xD1, 0x90, 0x34, 0x12] (.rclRm16One (.mem (.disp16 .bxSi 0x1234))) &&
     reads [0xD1, 0x1E, 0x78, 0x56] (.rcrRm16One (.mem (.direct 0x5678))) &&
     reads [0xD1, 0xE6] (.shlRm16One (.reg .si)) &&
     reads [0xD1, 0x2B] (.shrRm16One (.mem (.base .bpDi))) &&
     reads [0xD1, 0x7E, 0xF1] (.sarRm16One (.mem (.disp8 .bp 0xF1))) &&
     reads [0xD2, 0x81, 0x34, 0x12] (.rolRm8Cl (.mem (.disp16 .bxDi 0x1234))) &&
     reads [0xD2, 0x0E, 0x78, 0x56] (.rorRm8Cl (.mem (.direct 0x5678))) &&
     reads [0xD2, 0xD5] (.rclRm8Cl (.reg .ch)) &&
     reads [0xD2, 0x1C] (.rcrRm8Cl (.mem (.base .si))) &&
     reads [0xD2, 0x67, 0xF1] (.shlRm8Cl (.mem (.disp8 .bx 0xF1))) &&
     reads [0xD2, 0xAA, 0x34, 0x12] (.shrRm8Cl (.mem (.disp16 .bpSi 0x1234))) &&
     reads [0xD2, 0x3E, 0x78, 0x56] (.sarRm8Cl (.mem (.direct 0x5678))) &&
     reads [0xD3, 0xC4] (.rolRm16Cl (.reg .sp)) &&
     reads [0xD3, 0x0D] (.rorRm16Cl (.mem (.base .di)))) = true := by decide

/-- rclRm16Cl to negRm8. -/
theorem test_decode_words_8 :
    (reads [0xD3, 0x50, 0xF1] (.rclRm16Cl (.mem (.disp8 .bxSi 0xF1))) &&
     reads [0xD3, 0x9B, 0x34, 0x12] (.rcrRm16Cl (.mem (.disp16 .bpDi 0x1234))) &&
     reads [0xD3, 0x26, 0x78, 0x56] (.shlRm16Cl (.mem (.direct 0x5678))) &&
     reads [0xD3, 0xEB] (.shrRm16Cl (.reg .bx)) &&
     reads [0xD3, 0x3F] (.sarRm16Cl (.mem (.base .bx))) &&
     reads [0xDD, 0x71, 0xF1] (.esc 5 6 (.mem (.disp8 .bxDi 0xF1))) &&
     reads [0xE0, 0x9C] (.loopne 0x9C) &&
     reads [0xE1, 0x9C] (.loope 0x9C) &&
     reads [0xE2, 0x9C] (.loop 0x9C) &&
     reads [0xE3, 0x9C] (.jcxz 0x9C) &&
     reads [0xE4, 0x9C] (.inAlPort 0x9C) &&
     reads [0xE5, 0x9C] (.inAxPort 0x9C) &&
     reads [0xE6, 0x9C] (.outPortAl 0x9C) &&
     reads [0xE7, 0x9C] (.outPortAx 0x9C) &&
     reads [0xE8, 0xDC, 0xFE] (.callNear 0xFEDC) &&
     reads [0xE9, 0xDC, 0xFE] (.jmpNear 0xFEDC) &&
     reads [0xEA, 0x34, 0x12, 0xCD, 0xAB] (.jmpFar 0x1234 0xABCD) &&
     reads [0xEB, 0x9C] (.jmpShort 0x9C) &&
     reads [0xF6, 0xC0, 0x9C] (.testRm8Imm8 (.reg .al) 0x9C) &&
     reads [0xF6, 0x11] (.notRm8 (.mem (.base .bxDi))) &&
     reads [0xF6, 0x5C, 0xF1] (.negRm8 (.mem (.disp8 .si 0xF1)))) = true := by decide

/-- mulRm8 to pushEs. -/
theorem test_decode_words_9 :
    (reads [0xF6, 0xA7, 0x34, 0x12] (.mulRm8 (.mem (.disp16 .bx 0x1234))) &&
     reads [0xF6, 0x2E, 0x78, 0x56] (.imulRm8 (.mem (.direct 0x5678))) &&
     reads [0xF6, 0xF7] (.divRm8 (.reg .bh)) &&
     reads [0xF6, 0x3A] (.idivRm8 (.mem (.base .bpSi))) &&
     reads [0xF7, 0x45, 0xF1, 0xDC, 0xFE] (.testRm16Imm16 (.mem (.disp8 .di 0xF1)) 0xFEDC) &&
     reads [0xF7, 0x90, 0x34, 0x12] (.notRm16 (.mem (.disp16 .bxSi 0x1234))) &&
     reads [0xF7, 0x1E, 0x78, 0x56] (.negRm16 (.mem (.direct 0x5678))) &&
     reads [0xF7, 0xE6] (.mulRm16 (.reg .si)) &&
     reads [0xF7, 0x2B] (.imulRm16 (.mem (.base .bpDi))) &&
     reads [0xF7, 0x76, 0xF1] (.divRm16 (.mem (.disp8 .bp 0xF1))) &&
     reads [0xF7, 0xB9, 0x34, 0x12] (.idivRm16 (.mem (.disp16 .bxDi 0x1234))) &&
     reads [0xFE, 0x06, 0x78, 0x56] (.incRm8 (.mem (.direct 0x5678))) &&
     reads [0xFE, 0xCD] (.decRm8 (.reg .ch)) &&
     reads [0xFF, 0x04] (.incRm16 (.mem (.base .si))) &&
     reads [0xFF, 0x4F, 0xF1] (.decRm16 (.mem (.disp8 .bx 0xF1))) &&
     reads [0xFF, 0x92, 0x34, 0x12] (.callRm16 (.mem (.disp16 .bpSi 0x1234))) &&
     reads [0xFF, 0x1E, 0x78, 0x56] (.callMem (.direct 0x5678)) &&
     reads [0xFF, 0xE4] (.jmpRm16 (.reg .sp)) &&
     reads [0xFF, 0x2D] (.jmpMem (.base .di)) &&
     reads [0xFF, 0x70, 0xF1] (.pushRm16 (.mem (.disp8 .bxSi 0xF1))) &&
     reads [0x06] (.pushEs)) = true := by decide

/-- popEs to xchgAxSi. -/
theorem test_decode_words_10 :
    (reads [0x07] (.popEs) &&
     reads [0x26] (.overrideEs) &&
     reads [0x0E] (.pushCs) &&
     reads [0x2E] (.overrideCs) &&
     reads [0x16] (.pushSs) &&
     reads [0x17] (.popSs) &&
     reads [0x36] (.overrideSs) &&
     reads [0x1E] (.pushDs) &&
     reads [0x1F] (.popDs) &&
     reads [0x3E] (.overrideDs) &&
     reads [0x27] (.daa) &&
     reads [0x2F] (.das) &&
     reads [0x37] (.aaa) &&
     reads [0x3F] (.aas) &&
     reads [0x90] (.nop) &&
     reads [0x91] (.xchgAxCx) &&
     reads [0x92] (.xchgAxDx) &&
     reads [0x93] (.xchgAxBx) &&
     reads [0x94] (.xchgAxSp) &&
     reads [0x95] (.xchgAxBp) &&
     reads [0x96] (.xchgAxSi)) = true := by decide

/-- xchgAxDi to int3. -/
theorem test_decode_words_11 :
    (reads [0x97] (.xchgAxDi) &&
     reads [0x98] (.cbw) &&
     reads [0x99] (.cwd) &&
     reads [0x9B] (.wait) &&
     reads [0x9C] (.pushf) &&
     reads [0x9D] (.popf) &&
     reads [0x9E] (.sahf) &&
     reads [0x9F] (.lahf) &&
     reads [0xA4] (.movsb) &&
     reads [0xA5] (.movsw) &&
     reads [0xA6] (.cmpsb) &&
     reads [0xA7] (.cmpsw) &&
     reads [0xAA] (.stosb) &&
     reads [0xAB] (.stosw) &&
     reads [0xAC] (.lodsb) &&
     reads [0xAD] (.lodsw) &&
     reads [0xAE] (.scasb) &&
     reads [0xAF] (.scasw) &&
     reads [0xC3] (.retNear) &&
     reads [0xCB] (.retFar) &&
     reads [0xCC] (.int3)) = true := by decide

/-- into to std. -/
theorem test_decode_words_12 :
    (reads [0xCE] (.into) &&
     reads [0xCF] (.iret) &&
     reads [0xD4, 0x0A] (.aam) &&
     reads [0xD5, 0x0A] (.aad) &&
     reads [0xD7] (.xlat) &&
     reads [0xEC] (.inAlDx) &&
     reads [0xED] (.inAxDx) &&
     reads [0xEE] (.outDxAl) &&
     reads [0xEF] (.outDxAx) &&
     reads [0xF0] (.lockPrefix) &&
     reads [0xF2] (.repne) &&
     reads [0xF3] (.rep) &&
     reads [0xF4] (.hlt) &&
     reads [0xF5] (.cmc) &&
     reads [0xF8] (.clc) &&
     reads [0xF9] (.stc) &&
     reads [0xFA] (.cli) &&
     reads [0xFB] (.sti) &&
     reads [0xFC] (.cld) &&
     reads [0xFD] (.std)) = true := by decide

/-- Some encodings of R126, and the second byte of AAM (R345), are rejected. -/
theorem test_decode_rejects :
    ([[0x0F, 0x00], [0x60, 0x00], [0xC0, 0xC0], [0xD6], [0xF1], [0x82, 0xC8], [0x8F, 0xC8], [0xC6, 0xC8], [0xD0, 0xF0],
      [0xF6, 0xC8], [0xFE, 0xD0], [0xFF, 0xF8], [0x8E, 0xC8], [0x8C, 0xE0], [0x8D, 0xC0], [0xC4, 0xC0], [0xFF, 0xD8],
      [0xD4, 0x10]] : List (List Byte)).all (fun bs => match decode bs with | .error _ => true | .ok _ => false) = true := by
  decide

/-- The numbering of the opcode table (R130): first byte in bits 15 to 8. -/
theorem test_table_numbering :
    decodeTableWord 16 0x01C8 = some (.addRm16R16 (.reg .ax) .cx) ∧ decodeTableWord 16 0xD40A = some .aam ∧
      decodeTableWord 16 0xF300 = some .rep := by decide

/-! ## One step per instruction, from the vectors of the spec -/

/-- The default start state of the vectors. -/
def start : State :=
  { State.reset with
    cs := 0x1000, ip := 0x0100, ds := 0x2000, es := 0x3000, ss := 0x4000, regs := { State.reset.regs with sp := 0x0100 } }

/-- `s` with bytes in memory. -/
def poke (s : State) (l : List (Nat × Byte)) : State :=
  { s with mem := l.foldl (fun m c => Memory.write m c.1 c.2) s.mem }

/-- One step with the code bytes at CS:IP meets `ok`. -/
def runs (code : List Byte) (s : State) (ok : State → Bool) : Bool :=
  match step (s.placeCode 0 code) with
  | .next t => ok t
  | .fault _ => false
  | .refused _ => false

/-- MOV DX,CX. -/
theorem test_E1_mov : runs [0x8B, 0xD1]
    ({ start with regs := { start.regs with cx := 0x1234 } })
    (fun t => t.regs.dx == 0x1234 && t.ip == 0x0102 && decide (t.flags = start.flags)) = true := by decide
/-- MOV BYTE PTR [DI]+0200h,AL. -/
theorem test_E3_mov : runs [0x88, 0x85, 0x00, 0x02]
    ({ start with regs := { start.regs with di := 0x0004, ax := 0x005A } })
    (fun t => t.memoryByte 0x20204 == 0x5A && t.ip == 0x0104 && decide (t.flags = start.flags)) = true := by decide
/-- XCHG AL,DH. -/
theorem test_E7_xchg : runs [0x86, 0xC6]
    ({ start with regs := { start.regs with ax := 0x0011, dx := 0x2200 } })
    (fun t => t.regs.ax == 0x0022 && t.regs.dx == 0x1100 && t.ip == 0x0102 && decide (t.flags = start.flags)) = true := by decide
/-- NOP. -/
theorem test_E9_nop : runs [0x90]
    ({ start with regs := { start.regs with ax := 0x1234 } })
    (fun t => t.ip == 0x0101 && decide (t.flags = start.flags)) = true := by decide
/-- XLAT. -/
theorem test_E10_xlat : runs [0xD7]
    (poke ({ start with regs := { start.regs with bx := 0x0200, ax := 0x0005 } }) [(0x20205, 0x41)])
    (fun t => t.regs.ax == 0x0041 && t.ip == 0x0101 && decide (t.flags = start.flags)) = true := by decide
/-- LEA BX,[0300h]. -/
theorem test_E11_lea : runs [0x8D, 0x1E, 0x00, 0x03]
    (poke start [(0x20300, 0xEE), (0x20301, 0xEE)])
    (fun t => t.regs.bx == 0x0300 && t.ip == 0x0104 && decide (t.flags = start.flags)) = true := by decide
/-- LDS SI,[DI]. -/
theorem test_E12_lds : runs [0xC5, 0x35]
    (poke ({ start with regs := { start.regs with di := 0x0040 } }) [(0x20040, 0x10), (0x20041, 0x00), (0x20042, 0x00), (0x20043, 0x50)])
    (fun t => t.regs.si == 0x0010 && t.ds == 0x5000 && t.ip == 0x0102 && decide (t.flags = start.flags)) = true := by decide
/-- LES DI,[DI]+4. -/
theorem test_E13_les : runs [0xC4, 0x7D, 0x04]
    (poke ({ start with regs := { start.regs with di := 0x0040 } }) [(0x20044, 0x20), (0x20045, 0x00), (0x20046, 0x00), (0x20047, 0x60)])
    (fun t => t.regs.di == 0x0020 && t.es == 0x6000 && t.ip == 0x0103 && decide (t.flags = start.flags)) = true := by decide
/-- PUSH SI. -/
theorem test_E14_push : runs [0x56]
    ({ start with regs := { start.regs with si := 0x1234 } })
    (fun t => t.memoryByte 0x400FE == 0x34 && t.memoryByte 0x400FF == 0x12 && t.regs.sp == 0x00FE && t.ip == 0x0101 &&
      decide (t.flags = start.flags)) = true := by decide
/-- PUSH ES. -/
theorem test_E15_push : runs [0x06]
    start
    (fun t => t.memoryByte 0x400FE == 0x00 && t.memoryByte 0x400FF == 0x30 && t.regs.sp == 0x00FE && t.ip == 0x0101 &&
      decide (t.flags = start.flags)) = true := by decide
/-- POPF. -/
theorem test_E18_popf : runs [0x9D]
    (poke start [(0x40100, 0xD5), (0x40101, 0x0A)])
    (fun t => t.regs.sp == 0x0102 && t.flags.of && !t.flags.df && t.flags.ifl && !t.flags.tf && t.flags.sf && t.flags.zf &&
      t.flags.af && t.flags.pf && t.flags.cf && t.ip == 0x0101) = true := by decide
/-- POP DS. -/
theorem test_E19_pop : runs [0x1F]
    (poke start [(0x40100, 0x00), (0x40101, 0x25)])
    (fun t => t.regs.sp == 0x0102 && t.ds == 0x2500 && t.ip == 0x0101 && decide (t.flags = start.flags)) = true := by decide
/-- POP AX. -/
theorem test_E20_pop : runs [0x58]
    (poke start [(0x40100, 0x34), (0x40101, 0x12)])
    (fun t => t.regs.ax == 0x1234 && t.regs.sp == 0x0102 && t.ip == 0x0101 && decide (t.flags = start.flags)) = true := by decide
/-- NEG AL. -/
theorem test_E28_neg : runs [0xF6, 0xD8]
    ({ start with regs := { start.regs with ax := 0x0000 } })
    (fun t => !t.flags.of && !t.flags.sf && t.flags.zf && !t.flags.af && t.flags.pf && !t.flags.cf && t.ip == 0x0102) = true := by decide
/-- NEG AL. -/
theorem test_E29_neg : runs [0xF6, 0xD8]
    ({ start with regs := { start.regs with ax := 0x0080 } })
    (fun t => t.flags.of && t.flags.sf && !t.flags.zf && !t.flags.af && !t.flags.pf && t.flags.cf && t.ip == 0x0102) = true := by decide
/-- ADD AL,BL. -/
theorem test_E32_add : runs [0x02, 0xC3]
    ({ start with regs := { start.regs with ax := 0x0079, bx := 0x00D6 } })
    (fun t => t.regs.ax == 0x004F && !t.flags.of && !t.flags.sf && !t.flags.zf && !t.flags.af && !t.flags.pf && t.flags.cf &&
      t.ip == 0x0102) = true := by decide
/-- ADD AL,BL. -/
theorem test_E33_add : runs [0x02, 0xC3]
    ({ start with regs := { start.regs with ax := 0x0079, bx := 0x0056 } })
    (fun t => t.regs.ax == 0x00CF && t.flags.of && t.flags.sf && !t.flags.zf && !t.flags.af && t.flags.pf && !t.flags.cf &&
      t.ip == 0x0102) = true := by decide
/-- INC WORD PTR [DI]+0200h. -/
theorem test_E38_inc : runs [0xFF, 0x85, 0x00, 0x02]
    (poke ({ start with regs := { start.regs with di := 0x0004 }, flags := { start.flags with cf := true } }) [(0x20204, 0xFF), (0x20205, 0x00)])
    (fun t => t.memoryByte 0x20204 == 0x00 && t.memoryByte 0x20205 == 0x01 && !t.flags.of && !t.flags.sf && !t.flags.zf &&
      t.flags.af && t.flags.pf && t.flags.cf && t.ip == 0x0104) = true := by decide
/-- SUB DX,WORD PTR [BP]+2. -/
theorem test_E39_sub : runs [0x2B, 0x56, 0x02]
    (poke ({ start with regs := { start.regs with dx := 0x0005, bp := 0x00F0 } }) [(0x400F2, 0x06), (0x400F3, 0x00)])
    (fun t => t.regs.dx == 0xFFFF && !t.flags.of && t.flags.sf && !t.flags.zf && t.flags.af && t.flags.pf && t.flags.cf &&
      t.ip == 0x0103) = true := by decide
/-- DEC BYTE PTR [BX]. -/
theorem test_E40_dec : runs [0xFE, 0x0F]
    (poke ({ start with regs := { start.regs with bx := 0x0030 } }) [(0x20030, 0x00)])
    (fun t => t.memoryByte 0x20030 == 0xFF && !t.flags.of && t.flags.sf && !t.flags.zf && t.flags.af && t.flags.pf &&
      !t.flags.cf && t.ip == 0x0102) = true := by decide
/-- CMP AL,BL. -/
theorem test_E42_cmp : runs [0x3A, 0xC3]
    ({ start with regs := { start.regs with ax := 0x0005, bx := 0x0003 } })
    (fun t => !t.flags.of && !t.flags.sf && !t.flags.zf && !t.flags.af && !t.flags.pf && !t.flags.cf && t.ip == 0x0102) = true := by decide
/-- CMP AL,BL. -/
theorem test_E43_cmp : runs [0x3A, 0xC3]
    ({ start with regs := { start.regs with ax := 0x0005, bx := 0x0005 } })
    (fun t => !t.flags.of && !t.flags.sf && t.flags.zf && !t.flags.af && t.flags.pf && !t.flags.cf && t.ip == 0x0102) = true := by decide
/-- MUL BL. -/
theorem test_E48_mul : runs [0xF6, 0xE3]
    ({ start with regs := { start.regs with ax := 0x0010, bx := 0x0010 } })
    (fun t => t.regs.ax == 0x0100 && t.flags.of && t.flags.cf && t.ip == 0x0102) = true := by decide
/-- IMUL CX. -/
theorem test_E50_imul : runs [0xF7, 0xE9]
    ({ start with regs := { start.regs with ax := 0xFFFE, cx := 0x0003, dx := 0x5555 } })
    (fun t => t.regs.ax == 0xFFFA && t.regs.dx == 0xFFFF && !t.flags.of && !t.flags.cf && t.ip == 0x0102) = true := by decide
/-- IMUL BYTE PTR [BX][SI]. -/
theorem test_E51_imul : runs [0xF6, 0x28]
    (poke ({ start with regs := { start.regs with ax := 0x5580, bx := 0x0010, si := 0x0002 } }) [(0x20012, 0xFF)])
    (fun t => t.regs.ax == 0x0080 && t.flags.of && t.flags.cf && t.ip == 0x0102) = true := by decide
/-- DIV BH. -/
theorem test_E53_div : runs [0xF6, 0xF7]
    ({ start with regs := { start.regs with ax := 0x03E8, bx := 0x0700 } })
    (fun t => t.regs.ax == 0x068E && t.ip == 0x0102) = true := by decide
/-- IDIV BYTE PTR [DI]. -/
theorem test_E56_idiv : runs [0xF6, 0x3D]
    (poke ({ start with regs := { start.regs with ax := 0xFF9C, di := 0x0010 } }) [(0x20010, 0x07)])
    (fun t => t.regs.ax == 0xFEF2 && t.ip == 0x0102) = true := by decide
/-- IDIV BL. -/
theorem test_A36_idiv : runs [0xF6, 0xFB]
    ({ start with regs := { start.regs with ax := 0x0007, bx := 0x0002 } })
    (fun t => t.regs.ax == 0x0103 && t.ip == 0x0102) = true := by decide
/-- AND AX,BX. -/
theorem test_E62_and : runs [0x23, 0xC3]
    ({ start with regs := { start.regs with ax := 0xF0F0, bx := 0x3C3C } })
    (fun t => t.regs.ax == 0x3030 && !t.flags.of && !t.flags.sf && !t.flags.zf && t.flags.pf && !t.flags.cf && t.ip == 0x0102) = true := by decide
/-- TEST BYTE PTR [SI],1h. -/
theorem test_E63_test : runs [0xF6, 0x04, 0x01]
    (poke ({ start with regs := { start.regs with si := 0x0010 } }) [(0x20010, 0x03)])
    (fun t => !t.flags.of && !t.flags.sf && !t.flags.zf && !t.flags.pf && !t.flags.cf && t.ip == 0x0103) = true := by decide
/-- OR AX,8000h. -/
theorem test_E65_or : runs [0x0D, 0x00, 0x80]
    ({ start with regs := { start.regs with ax := 0x0001 } })
    (fun t => t.regs.ax == 0x8001 && !t.flags.of && t.flags.sf && !t.flags.zf && !t.flags.pf && !t.flags.cf && t.ip == 0x0103) = true := by decide
/-- XOR BX,BX. -/
theorem test_E66_xor : runs [0x33, 0xDB]
    ({ start with regs := { start.regs with bx := 0x1234 } })
    (fun t => t.regs.bx == 0x0000 && !t.flags.of && !t.flags.sf && t.flags.zf && t.flags.pf && !t.flags.cf && t.ip == 0x0102) = true := by decide
/-- NOT BYTE PTR [SI]. -/
theorem test_E68_not : runs [0xF6, 0x14]
    (poke ({ start with regs := { start.regs with si := 0x0010 }, flags := { start.flags with cf := true, zf := true } }) [(0x20010, 0xA5)])
    (fun t => t.memoryByte 0x20010 == 0x5A && t.ip == 0x0102 &&
      decide (t.flags = (poke ({ start with regs := { start.regs with si := 0x0010 }, flags := { start.flags with cf := true, zf := true } }) [(0x20010, 0xA5)]).flags)) = true := by decide
/-- SHL DH,1. -/
theorem test_E69_shl : runs [0xD0, 0xE6]
    ({ start with regs := { start.regs with dx := 0x8100 } })
    (fun t => t.regs.dx == 0x0200 && t.flags.of && !t.flags.sf && !t.flags.zf && !t.flags.pf && t.flags.cf && t.ip == 0x0102) = true := by decide
/-- SHL BX,CL. -/
theorem test_E72_shl : runs [0xD3, 0xE3]
    ({ start with regs := { start.regs with bx := 0x0005, cx := 0x0003 } })
    (fun t => t.regs.bx == 0x0028 && !t.flags.sf && !t.flags.zf && t.flags.pf && !t.flags.cf && t.ip == 0x0102) = true := by decide
/-- SAR BYTE PTR [SI],CL. -/
theorem test_E70_sar : runs [0xD2, 0x3C]
    (poke ({ start with regs := { start.regs with si := 0x0010, cx := 0x0002 } }) [(0x20010, 0x86)])
    (fun t => t.memoryByte 0x20010 == 0xE1 && t.flags.sf && !t.flags.zf && t.flags.pf && t.flags.cf && t.ip == 0x0102) = true := by decide
/-- SAR BX,CL. -/
theorem test_E75_sar : runs [0xD3, 0xFB]
    ({ start with regs := { start.regs with bx := 0xFFD5, cx := 0x0003 } })
    (fun t => t.regs.bx == 0xFFFA && t.flags.sf && !t.flags.zf && t.flags.pf && t.flags.cf && t.ip == 0x0102) = true := by decide
/-- ROR WORD PTR [BX][DI],1. -/
theorem test_E71_ror : runs [0xD1, 0x09]
    (poke ({ start with regs := { start.regs with bx := 0x0010, di := 0x0002 } }) [(0x20012, 0x01), (0x20013, 0x00)])
    (fun t => t.memoryByte 0x20012 == 0x00 && t.memoryByte 0x20013 == 0x80 && t.flags.of && t.flags.cf && t.ip == 0x0102) = true := by decide
/-- SHR BX,CL. -/
theorem test_E74_shr : runs [0xD3, 0xEB]
    ({ start with regs := { start.regs with bx := 0x002B, cx := 0x0003 } })
    (fun t => t.regs.bx == 0x0005 && !t.flags.sf && !t.flags.zf && t.flags.pf && !t.flags.cf && t.ip == 0x0102) = true := by decide
/-- JMP SHORT 0112h. -/
theorem test_E76_jmp : runs [0xEB, 0x10]
    start
    (fun t => t.ip == 0x0112 && decide (t.flags = start.flags)) = true := by decide
/-- JMP 1000h. -/
theorem test_E77_jmp : runs [0xE9, 0xFD, 0x0E]
    start
    (fun t => t.ip == 0x1000 && decide (t.flags = start.flags)) = true := by decide
/-- CALL 0300h. -/
theorem test_E81_call : runs [0xE8, 0xFD, 0x01]
    start
    (fun t => t.memoryByte 0x400FE == 0x03 && t.memoryByte 0x400FF == 0x01 && t.regs.sp == 0x00FE && t.ip == 0x0300 &&
      decide (t.flags = start.flags)) = true := by decide
/-- CALL BX. -/
theorem test_E82_call : runs [0xFF, 0xD3]
    ({ start with regs := { start.regs with bx := 0x0300 } })
    (fun t => t.memoryByte 0x400FE == 0x02 && t.memoryByte 0x400FF == 0x01 && t.regs.sp == 0x00FE && t.ip == 0x0300 &&
      decide (t.flags = start.flags)) = true := by decide
/-- RET. -/
theorem test_E85_ret : runs [0xC3]
    (poke ({ start with regs := { start.regs with sp := 0x00FE } }) [(0x400FE, 0x03), (0x400FF, 0x01)])
    (fun t => t.regs.sp == 0x0100 && t.ip == 0x0103 && decide (t.flags = start.flags)) = true := by decide
/-- RETF. -/
theorem test_E87_retf : runs [0xCB]
    (poke ({ start with regs := { start.regs with sp := 0x00FC } }) [(0x400FC, 0x05), (0x400FD, 0x01), (0x400FE, 0x00), (0x400FF, 0x10)])
    (fun t => t.regs.sp == 0x0100 && t.ip == 0x0105 && decide (t.flags = start.flags)) = true := by decide
/-- SAHF. -/
theorem test_D22_sahf : runs [0x9E]
    ({ start with regs := { start.regs with ax := 0xFF00 }, flags := { start.flags with of := false } })
    (fun t => !t.flags.of && t.flags.sf && t.flags.zf && t.flags.af && t.flags.pf && t.flags.cf && t.ip == 0x0101) = true := by decide
/-- ADC AL,BL. -/
theorem test_A7_adc : runs [0x12, 0xC3]
    ({ start with regs := { start.regs with ax := 0x00FF, bx := 0x0000 }, flags := { start.flags with cf := true } })
    (fun t => t.regs.ax == 0x0000 && !t.flags.of && !t.flags.sf && t.flags.zf && t.flags.af && t.flags.pf && t.flags.cf &&
      t.ip == 0x0102) = true := by decide
/-- SBB AL,BL. -/
theorem test_A13_sbb : runs [0x1A, 0xC3]
    ({ start with regs := { start.regs with ax := 0x0000, bx := 0x00FF }, flags := { start.flags with cf := true } })
    (fun t => !t.flags.of && !t.flags.sf && t.flags.zf && t.flags.af && t.flags.pf && t.flags.cf && t.ip == 0x0102) = true := by decide
/-- CBW. -/
theorem test_A45_cbw : runs [0x98]
    ({ start with regs := { start.regs with ax := 0xFF7F } })
    (fun t => t.regs.ax == 0x007F && t.ip == 0x0101 && decide (t.flags = start.flags)) = true := by decide
/-- CWD. -/
theorem test_A47_cwd : runs [0x99]
    ({ start with regs := { start.regs with ax := 0x7FFF, dx := 0xFFFF } })
    (fun t => t.regs.dx == 0x0000 && t.ip == 0x0101 && decide (t.flags = start.flags)) = true := by decide
/-- ROL AL,1. -/
theorem test_G13_rol : runs [0xD0, 0xC0]
    ({ start with regs := { start.regs with ax := 0x0081 }, flags := { start.flags with zf := true, sf := false } })
    (fun t => t.regs.ax == 0x0003 && t.flags.of && t.flags.cf && t.ip == 0x0102) = true := by decide
/-- RCL AL,1. -/
theorem test_G15_rcl : runs [0xD0, 0xD0]
    ({ start with regs := { start.regs with ax := 0x0080 } })
    (fun t => t.regs.ax == 0x0000 && t.flags.of && t.flags.cf && t.ip == 0x0102) = true := by decide
/-- RCR AL,1. -/
theorem test_G17_rcr : runs [0xD0, 0xD8]
    ({ start with regs := { start.regs with ax := 0x0001 }, flags := { start.flags with cf := true } })
    (fun t => t.regs.ax == 0x0080 && t.flags.of && t.flags.cf && t.ip == 0x0102) = true := by decide
/-- JB 0112h. -/
theorem test_C8_jb : runs [0x72, 0x10]
    ({ start with flags := { start.flags with cf := true } })
    (fun t => t.ip == 0x0112 && decide (t.flags = ({ start with flags := { start.flags with cf := true } }).flags)) = true := by decide
/-- JG 0112h. -/
theorem test_C10_jg : runs [0x7F, 0x10]
    ({ start with flags := { start.flags with sf := true, of := true } })
    (fun t => t.ip == 0x0112 && decide (t.flags = ({ start with flags := { start.flags with sf := true, of := true } }).flags)) = true := by decide
/-- JLE 0112h. -/
theorem test_C11_jle : runs [0x7E, 0x10]
    ({ start with flags := { start.flags with zf := true } })
    (fun t => t.ip == 0x0112 && decide (t.flags = ({ start with flags := { start.flags with zf := true } }).flags)) = true := by decide
/-- JP 0112h. -/
theorem test_C12_jp : runs [0x7A, 0x10]
    ({ start with flags := { start.flags with pf := true } })
    (fun t => t.ip == 0x0112 && decide (t.flags = ({ start with flags := { start.flags with pf := true } }).flags)) = true := by decide
/-- JO 0112h. -/
theorem test_C13_jo : runs [0x70, 0x10]
    start
    (fun t => t.ip == 0x0102 && decide (t.flags = start.flags)) = true := by decide
/-- JCXZ 0112h. -/
theorem test_C15_jcxz : runs [0xE3, 0x10]
    start
    (fun t => t.ip == 0x0112 && decide (t.flags = start.flags)) = true := by decide
/-- LOOP 0100h. -/
theorem test_C17_loop : runs [0xE2, 0xFE]
    ({ start with regs := { start.regs with cx := 0x0002 } })
    (fun t => t.regs.cx == 0x0001 && t.ip == 0x0100 && decide (t.flags = start.flags)) = true := by decide
/-- LOOPE 0100h. -/
theorem test_C20_loope : runs [0xE1, 0xFE]
    ({ start with regs := { start.regs with cx := 0x0002 }, flags := { start.flags with zf := false } })
    (fun t => t.regs.cx == 0x0001 && t.ip == 0x0102 &&
      decide (t.flags = ({ start with regs := { start.regs with cx := 0x0002 }, flags := { start.flags with zf := false } }).flags)) = true := by decide
/-- LOOPNE 0100h. -/
theorem test_C22_loopne : runs [0xE0, 0xFE]
    ({ start with regs := { start.regs with cx := 0x0002 }, flags := { start.flags with zf := false } })
    (fun t => t.regs.cx == 0x0001 && t.ip == 0x0100 &&
      decide (t.flags = ({ start with regs := { start.regs with cx := 0x0002 }, flags := { start.flags with zf := false } }).flags)) = true := by decide
/-- INTO. -/
theorem test_C27_into : runs [0xCE]
    start
    (fun t => t.ip == 0x0101 && decide (t.flags = start.flags)) = true := by decide
/-- IRET. -/
theorem test_C30_iret : runs [0xCF]
    (poke ({ start with regs := { start.regs with sp := 0x00FA } }) [(0x400FA, 0x02), (0x400FB, 0x01), (0x400FC, 0x00), (0x400FD, 0x10), (0x400FE, 0x81), (0x400FF, 0x02)])
    (fun t => t.regs.sp == 0x0100 && !t.flags.of && !t.flags.df && t.flags.ifl && !t.flags.tf && t.flags.sf && !t.flags.zf &&
      !t.flags.af && !t.flags.pf && t.flags.cf && t.ip == 0x0102) = true := by decide
/-- MOVSB. -/
theorem test_S1_movsb : runs [0xA4]
    (poke ({ start with regs := { start.regs with si := 0x0010, di := 0x0020 } }) [(0x20010, 0xAA)])
    (fun t => t.memoryByte 0x30020 == 0xAA && t.regs.si == 0x0011 && t.regs.di == 0x0021 && t.ip == 0x0101 &&
      decide (t.flags = start.flags)) = true := by decide
/-- MOVSW. -/
theorem test_S2_movsw : runs [0xA5]
    (poke ({ start with regs := { start.regs with si := 0x0010, di := 0x0020 }, flags := { start.flags with df := true } }) [(0x20010, 0x34), (0x20011, 0x12)])
    (fun t => t.memoryByte 0x30020 == 0x34 && t.memoryByte 0x30021 == 0x12 && t.regs.si == 0x000E && t.regs.di == 0x001E &&
      t.ip == 0x0101 &&
      decide (t.flags = (poke ({ start with regs := { start.regs with si := 0x0010, di := 0x0020 }, flags := { start.flags with df := true } }) [(0x20010, 0x34), (0x20011, 0x12)]).flags)) = true := by decide
/-- CMPSB. -/
theorem test_S3_cmpsb : runs [0xA6]
    (poke ({ start with regs := { start.regs with si := 0x0010, di := 0x0020 } }) [(0x20010, 0x01), (0x30020, 0x02)])
    (fun t => t.regs.si == 0x0011 && t.regs.di == 0x0021 && !t.flags.of && t.flags.sf && !t.flags.zf && t.flags.af && t.flags.pf &&
      t.flags.cf && t.ip == 0x0101) = true := by decide
/-- SCASB. -/
theorem test_S4_scasb : runs [0xAE]
    (poke ({ start with regs := { start.regs with ax := 0x0005, di := 0x0020 } }) [(0x30020, 0x05)])
    (fun t => t.regs.di == 0x0021 && !t.flags.of && !t.flags.sf && t.flags.zf && !t.flags.af && t.flags.pf && !t.flags.cf &&
      t.ip == 0x0101) = true := by decide
/-- LODSB. -/
theorem test_S5_lodsb : runs [0xAC]
    (poke ({ start with regs := { start.regs with ax := 0x7700, si := 0x0010 } }) [(0x20010, 0x42)])
    (fun t => t.regs.ax == 0x7742 && t.regs.si == 0x0011 && t.ip == 0x0101 && decide (t.flags = start.flags)) = true := by decide
/-- LODSW. -/
theorem test_S6_lodsw : runs [0xAD]
    (poke ({ start with regs := { start.regs with si := 0x0010 }, flags := { start.flags with df := true } }) [(0x20010, 0x34), (0x20011, 0x12)])
    (fun t => t.regs.ax == 0x1234 && t.regs.si == 0x000E && t.ip == 0x0101 &&
      decide (t.flags = (poke ({ start with regs := { start.regs with si := 0x0010 }, flags := { start.flags with df := true } }) [(0x20010, 0x34), (0x20011, 0x12)]).flags)) = true := by decide
/-- STOSB. -/
theorem test_S7_stosb : runs [0xAA]
    ({ start with regs := { start.regs with ax := 0x0020, di := 0x0030 } })
    (fun t => t.memoryByte 0x30030 == 0x20 && t.regs.di == 0x0031 && t.ip == 0x0101 && decide (t.flags = start.flags)) = true := by decide
/-- STOSW. -/
theorem test_S8_stosw : runs [0xAB]
    ({ start with regs := { start.regs with ax := 0x1234, di := 0xFFFE } })
    (fun t => t.memoryByte 0x3FFFE == 0x34 && t.memoryByte 0x3FFFF == 0x12 && t.regs.di == 0x0000 && t.ip == 0x0101 &&
      decide (t.flags = start.flags)) = true := by decide
/-- STC. -/
theorem test_P1_stc : runs [0xF9]
    start
    (fun t => t.flags.cf && t.ip == 0x0101) = true := by decide
/-- CLC. -/
theorem test_P2_clc : runs [0xF8]
    ({ start with flags := { start.flags with cf := true } })
    (fun t => !t.flags.cf && t.ip == 0x0101) = true := by decide
/-- CMC. -/
theorem test_P3_cmc : runs [0xF5]
    ({ start with flags := { start.flags with cf := true } })
    (fun t => !t.flags.cf && t.ip == 0x0101) = true := by decide
/-- STD. -/
theorem test_P4_std : runs [0xFD]
    start
    (fun t => t.flags.df && t.ip == 0x0101) = true := by decide
/-- CLD. -/
theorem test_P5_cld : runs [0xFC]
    ({ start with flags := { start.flags with df := true } })
    (fun t => !t.flags.df && t.ip == 0x0101) = true := by decide
/-- STI. -/
theorem test_P6_sti : runs [0xFB]
    start
    (fun t => t.flags.ifl && t.ip == 0x0101) = true := by decide
/-- CLI. -/
theorem test_P7_cli : runs [0xFA]
    ({ start with flags := { start.flags with ifl := true } })
    (fun t => !t.flags.ifl && t.ip == 0x0101) = true := by decide
/-- HLT. -/
theorem test_P8_hlt : runs [0xF4]
    start
    (fun t => t.ip == 0x0101 && t.halted && decide (t.flags = start.flags)) = true := by decide
/-- WAIT. -/
theorem test_P9_wait : runs [0x9B]
    start
    (fun t => t.ip == 0x0101 && decide (t.flags = start.flags)) = true := by decide
/-- ESC 0,WORD PTR [BX]. -/
theorem test_P13_esc : runs [0xD8, 0x07]
    (poke ({ start with regs := { start.regs with bx := 0x0010 } }) [(0x20010, 0x34), (0x20011, 0x12)])
    (fun t => t.ip == 0x0102 && decide (t.flags = start.flags)) = true := by decide
/-- AAD. -/
theorem test_B10_aad : runs [0xD5, 0x0A]
    ({ start with regs := { start.regs with ax := 0x0603 } })
    (fun t => t.regs.ax == 0x003F && !t.flags.sf && !t.flags.zf && t.flags.pf && t.ip == 0x0102) = true := by decide
/-- DAA after 38 + 45 (AL = 7D). -/
theorem test_B1_daa : runs [0x27]
    ({ start with regs := { start.regs with ax := 0x007D } })
    (fun t => t.regs.ax == 0x0083 && t.flags.sf && !t.flags.zf && t.flags.af && !t.flags.pf && !t.flags.cf) = true := by decide
/-- DAS after 83 - 38 (AL = 4B, AF = 1). -/
theorem test_B4_das : runs [0x2F]
    ({ start with regs := { start.regs with ax := 0x004B }, flags := { start.flags with af := true } })
    (fun t => t.regs.ax == 0x0045 && t.flags.af && !t.flags.cf && !t.flags.zf) = true := by decide
/-- AAA after 8 + 7 (AX = 000F). -/
theorem test_B6_aaa : runs [0x37]
    ({ start with regs := { start.regs with ax := 0x000F } })
    (fun t => t.regs.ax == 0x0105 && t.flags.af && t.flags.cf) = true := by decide
/-- AAS after 03 - 07 (AX = 01FC, AF = CF = 1). -/
theorem test_B8_aas : runs [0x3F]
    ({ start with regs := { start.regs with ax := 0x01FC }, flags := { start.flags with af := true, cf := true } })
    (fun t => t.regs.ax == 0x0006 && t.flags.af && t.flags.cf) = true := by decide
/-- AAM after 7 * 9 (AX = 003F). -/
theorem test_B9_aam : runs [0xD4, 0x0A]
    ({ start with regs := { start.regs with ax := 0x003F } })
    (fun t => t.regs.ax == 0x0603 && !t.flags.sf && !t.flags.zf && t.flags.pf) = true := by decide
/-- OUT 04h,AL. -/
theorem test_E26_out : runs [0xE6, 0x04]
    ({ start with regs := { start.regs with ax := 0x0099 } })
    (fun t => decide (t.bus = [⟨.write, .port 0x0004, .byte 0x99, false⟩])) = true := by decide
/-- OUT DX,AX. -/
theorem test_E27_out : runs [0xEF]
    ({ start with regs := { start.regs with ax := 0xBEEF, dx := 0x0300 } })
    (fun t => decide (t.bus = [⟨.write, .port 0x0300, .word 0xBEEF, false⟩])) = true := by decide
/-- IN AX,80h: the value is the environment's, one word cycle, AX alone changes. -/
theorem test_E24_in : runs [0xE5, 0x80]
    start
    (fun t => t.ip == 0x0102 && decide (t.flags = start.flags) && t.bus.length == 1) = true := by decide
/-- MOV [BX],AX at an odd address: two bus cycles, low byte first. -/
theorem test_R417_odd_word : runs [0x89, 0x07]
    ({ start with regs := { start.regs with ax := 0x1234, bx := 0x0011 } })
    (fun t => decide (t.bus = [⟨.write, .memory 0x20012, .byte 0x12, false⟩, ⟨.write, .memory 0x20011, .byte 0x34, false⟩])) = true := by decide
/-- ADD [BX],AL: the operand is read, then the result written. -/
theorem test_R74_add_memory : runs [0x00, 0x07]
    (poke { start with regs := { start.regs with ax := 0x0002, bx := 0x0010 } } [(0x20010, 0x03)])
    (fun t => decide (t.bus = [⟨.write, .memory 0x20010, .byte 0x05, false⟩, ⟨.read, .memory 0x20010, .byte 0x03, false⟩])) = true := by decide
/-- XCHG AX,[DI]: LOCK in both bus cycles, and none after it. -/
theorem test_R89_xchg_locks : runs [0x87, 0x05]
    (poke { start with regs := { start.regs with ax := 0x0002, di := 0x0010 } } [(0x20010, 0x03)])
    (fun t => decide (t.bus = [⟨.write, .memory 0x20010, .word 0x0002, true⟩, ⟨.read, .memory 0x20010, .word 0x0003, true⟩]) && !t.lockOutput) = true := by decide
/-- ESC with the operand [BX]: one word read, nothing else. -/
theorem test_R331_esc_reads : runs [0xD8, 0x07]
    ({ start with regs := { start.regs with bx := 0x0010 } })
    (fun t => decide (t.bus = [⟨.read, .memory 0x20010, .word 0x0000, false⟩]) && decide (t.regs = { start.regs with bx := 0x0010 }) && t.ip == 0x0102) = true := by decide
/-- MOV [BX],AL to a device: the byte is handed to it, memory stays. -/
theorem test_R76_device : runs [0x88, 0x07]
    ({ start with regs := { start.regs with ax := 0x0055, bx := 0x0010 }, platform := [⟨0x20010, 1, .device⟩] })
    (fun t => decide (t.bus = [⟨.write, .memory 0x20010, .byte 0x55, false⟩]) && t.memoryByte 0x20010 == 0x00) = true := by decide
/-- CLR inside MOV [BX],AL: the reset state, whether the store happened or not. -/
theorem test_R400_inside : runs [0x88, 0x07]
    ({ start with regs := { start.regs with ax := 0x0055 }, pins := { start.pins with clrInside := true } })
    (fun t => t.cs == 0xFFFF && t.ip == 0x0000 && t.ds == 0x0000 && !t.halted) = true := by decide
/-- LOCK INT 21h: LOCK ends with the instruction, before the bus cycles of its sequence (log 5). -/
theorem test_R329_lock_int : runs [0xCD, 0x21]
    ({ start with pfx := { Prefixes.none with lock := true } })
    (fun t => t.bus.length == 5 && t.bus.all (fun c => !c.lock) && decide (t.pfx = Prefixes.none)) = true := by decide
/-- LOCK REP MOVSB, CX = 2: LOCK in the bus cycles of the element, released at the window after it. -/
theorem test_D38_lock_rep : runs []
    ({ start with regs := { start.regs with si := 0x0010, cx := 0x0002 }, pfx := { Prefixes.none with rep := some .repe, lock := true }, inProgress := some .movsb })
    (fun t => t.bus.length == 2 && t.bus.all (fun c => c.lock) && decide (t.inProgress = some .movsb) && t.pfx.lock && !t.lockOutput) = true := by decide
/-- LOCK INC WORD PTR [BX] in the minimum configuration: no LOCK output. -/
theorem test_R381_minimum : runs [0xFF, 0x07]
    ({ start with pfx := { Prefixes.none with lock := true }, params := { start.params with configuration := .minimum } })
    (fun t => t.bus.length == 2 && t.bus.all (fun c => !c.lock)) = true := by decide
/-- ADD AL,3 with PF_EVEN = 0: PF is 0 for an even number of ones. -/
theorem test_R7_pf_even : runs [0x04, 0x03]
    ({ start with params := { start.params with pfEven := false } })
    (fun t => t.regs.ax == 0x0003 && !t.flags.pf) = true := by decide
/-- MOV [0105h],AL through CS with QUEUE_LEN = 2: the byte stored lies past the queue. -/
theorem test_R7_queue_len : runs [0xA2, 0x05, 0x01]
    ({ start with pfx := { Prefixes.none with seg := some .cs }, regs := { start.regs with ax := 0x0055 }, params := { start.params with queueLen := 2 } })
    (fun t => t.memoryByte 0x10105 == 0x55 && decide (t.queue = [])) = true := by decide
/-- PUSHF: SP; the image is statement FlagImage. -/
theorem test_E17_pushf : runs [0x9C]
    start
    (fun t => t.regs.sp == 0x00FE && decide (t.flags = start.flags)) = true := by decide
/-- LAHF: the flags stay; the bits of AH are statement FlagByte. -/
theorem test_D21_lahf : runs [0x9F]
    ({ start with regs := { start.regs with ax := 0x00AA } })
    (fun t => t.ip == 0x0101 && decide (t.flags = start.flags)) = true := by decide
/-- INT 21h: SP, IF, TF; the frame is statement SoftwareInterrupts. -/
theorem test_C25_int : runs [0xCD, 0x21]
    ({ start with flags := { start.flags with ifl := true, tf := false, cf := true } })
    (fun t => t.regs.sp == 0x00FA && !t.flags.ifl && !t.flags.tf && t.flags.cf && !t.raised) = true := by decide
/-- LOCK: recorded for the next step. -/
theorem test_P11_lock : runs [0xF0, 0x87, 0x07]
    start
    (fun t => t.pfx.lock && t.ip == 0x0101) = true := by decide
/-- REP: recorded for the next step. -/
theorem test_S13_rep : runs [0xF3, 0xAB]
    start
    (fun t => decide (t.pfx.rep = some .repe) && t.ip == 0x0101) = true := by decide
/-- INC AX, INTR with IF = 1: the sequence follows. -/
theorem test_I1_intr : runs [0x40]
    ({ start with flags := { start.flags with ifl := true }, pins := { start.pins with intrLevel := true, intrType := 0x40 } })
    (fun t => t.regs.ax == 0x0001 && t.regs.sp == 0x00FA && !t.flags.ifl) = true := by decide
/-- INC AX, INTR with IF = 0: no sequence. -/
theorem test_I2_masked : runs [0x40]
    ({ start with pins := { start.pins with intrLevel := true, intrType := 0x40 } })
    (fun t => t.regs.ax == 0x0001 && t.regs.sp == 0x0100 && t.ip == 0x0101) = true := by decide
/-- INC AX, NMI with IF = 0: the sequence follows. -/
theorem test_I3_nmi : runs [0x40]
    ({ start with pins := { start.pins with nmiPending := true } })
    (fun t => t.regs.ax == 0x0001 && t.regs.sp == 0x00FA && !t.pins.nmiPending) = true := by decide
/-- INT 20h with TF = 1: two frames. -/
theorem test_I5_trap_after_int : runs [0xCD, 0x20]
    ({ start with flags := { start.flags with tf := true, ifl := true } })
    (fun t => t.regs.sp == 0x00F4 && !t.flags.tf && !t.flags.ifl) = true := by decide
/-- INC AX with TF = 1: the trap follows. -/
theorem test_I6_trap : runs [0x40]
    ({ start with flags := { start.flags with tf := true } })
    (fun t => t.regs.ax == 0x0001 && t.regs.sp == 0x00FA && !t.flags.tf) = true := by decide
/-- HLT goes on while nothing is requested. -/
theorem test_I8_halted : runs []
    ({ start with halted := true })
    (fun t => t.halted && t.ip == 0x0100 && t.regs.sp == 0x0100) = true := by decide
/-- WAIT with TEST inactive and INTR: left for the sequence. -/
theorem test_I9_wait : runs [0x9B]
    ({ start with flags := { start.flags with ifl := true }, pins := { start.pins with testLevel := true, intrLevel := true } })
    (fun t => t.regs.sp == 0x00FA && decide (t.inProgress = none)) = true := by decide
/-- REP MOVSW, CX = 3: one element, more to come. -/
theorem test_S11_rep_movsw_element : runs []
    (poke { start with regs := { start.regs with si := 0x0010, di := 0x0020, cx := 0x0003 }, pfx := { Prefixes.none with rep := some .repe }, inProgress := some .movsw } [(0x20010, 0x01)])
    (fun t => t.regs.cx == 2 && t.regs.si == 0x12 && t.regs.di == 0x22 && t.memoryByte 0x30020 == 0x01 && decide (t.inProgress = some .movsw)) = true := by decide
/-- `start` with nothing at 20010h and a device at 10101h (R76, R78). -/
def holed : State := { start with regs := { start.regs with bx := 0x0010 }, platform := [⟨0x20010, 1, .absent⟩, ⟨0x10101, 1, .device⟩] }

/-- MOV AL,[BX] where no device answers (R78), its code bytes made plain memory. -/
theorem test_R78_absent : (match step (holed.placeCode 0 [0x8A, 0x07]) with | .refused .noDevice => true | _ => false) = true := by
  decide

/-- MOV AL,[BX] with its second byte at a device (R76). -/
theorem test_R76_code_at_a_device : (match step { holed with mem := [(0x10100, 0x8A)] } with
    | .refused .fetchOutsideMemory => true | _ => false) = true := by decide

/-! ## Witnesses: states and operands that meet the hypotheses of the statements

Each theorem names its statement. Statements that assume nothing about the state have none. -/

/-- A state with bytes in memory: the hypothesis of the statements AddAndAdc, SubAndSbb, IncAndDec, Negate, LogicOperations,
TestAndNot, ShiftsByOne, RotatesByOne, MoveForms, SegmentMoves, ExchangeForms, FlagImage, CallForms, CallReturn and
InterruptRoundTrip, and a part of the hypotheses of the others below. -/
def sample : State := poke start [(0x00000, 0x34), (0x10100, 0xF8), (0x20010, 0xCD), (0xFFFFF, 0x01)]

theorem test_witness_canonical_memory : sample.mem.wf = true ∧ sample.mem.length = 4 := by decide

theorem test_witness_DecodeEncode :
    (Instr.addRm8R8 (.mem (.base .bx)) .bh).wellFormed = true ∧
      (Instr.movRm16Imm16 (.mem (.disp16 .bp 0xFFFF)) 0xFFFF).wellFormed = true := by decide

theorem test_witness_EncodeDecode :
    decode [0xC7, 0x86, 0xFF, 0xFF, 0xFF, 0xFF, 0x90] =
      .ok (.movRm16Imm16 (.mem (.disp16 .bp 0xFFFF)) 0xFFFF, [0x90]) := by decide

theorem test_witness_UndefinedEncodings :
    4 ≤ ([0, 0, 0, 0] : List Byte).length ∧ Spec.Undefined 0x82 0xC8 ∧ ¬ Spec.Undefined 0x82 0xC0 ∧
      Spec.Undefined 0xD4 0x0B ∧ ¬ Spec.Undefined 0xD4 0x0A := ⟨by decide, by decide, by decide, by decide, by decide⟩

/-- `start` with the code bytes `bs` at CS:IP. -/
def code (bs : List Byte) : State := start.placeCode 0 bs

/-- Statement StepRunsDecoded: a whole instruction. -/
theorem test_witness_StepRunsDecoded_whole :
    (code [0xF8]).ready ∧ (code [0xF8]).queue = [] ∧ decode (Spec.codeBytes (code [0xF8])) = .ok (.clc, [0, 0, 0, 0, 0]) ∧
      (code [0xF8]).misplacedRepeat .clc = false ∧ isPrefix .clc = false ∧
      ∃ t, exec .clc ((code [0xF8]).begin 1) = .next t ∧ t.inProgress = none :=
  ⟨⟨rfl, rfl, rfl, rfl⟩, rfl, by decide, rfl, rfl, _, rfl, rfl⟩

/-- Statement StepRunsDecoded: a prefix. -/
theorem test_witness_StepRunsDecoded_prefix_byte :
    (code [0xF3]).ready ∧ (code [0xF3]).queue = [] ∧ decode (Spec.codeBytes (code [0xF3])) = .ok (.rep, [0, 0, 0, 0, 0]) ∧
      (code [0xF3]).misplacedRepeat .rep = false ∧ isPrefix .rep = true ∧
      ∃ t, exec .rep ((code [0xF3]).begin 1) = .next t :=
  ⟨⟨rfl, rfl, rfl, rfl⟩, rfl, by decide, rfl, rfl, _, rfl⟩

/-- Statement StepRunsDecoded: an instruction that stays in progress. -/
theorem test_witness_StepRunsDecoded_in_progress :
    ({ code [0x9B] with pins := { start.pins with testLevel := true } } : State).ready ∧
      decode (Spec.codeBytes (code [0x9B])) = .ok (.wait, [0, 0, 0, 0, 0]) ∧ isPrefix .wait = false ∧
      ∃ t, exec .wait (({ code [0x9B] with pins := { start.pins with testLevel := true } } : State).begin 1) = .next t ∧ t.inProgress ≠ none :=
  ⟨⟨rfl, rfl, rfl, rfl⟩, by decide, rfl, _, rfl, nofun⟩

/-- Statement StepRunsDecoded: an instruction that is refused (a word input at port FFFFh). -/
theorem test_witness_StepRunsDecoded_refused :
    (code [0xED]).ready ∧ decode (Spec.codeBytes (code [0xED])) = .ok (.inAxDx, [0, 0, 0, 0, 0]) ∧
      exec .inAxDx (({ code [0xED] with regs := { start.regs with dx := 0xFFFF } } : State).begin 1) = .refused .wordPortFFFF :=
  ⟨⟨rfl, rfl, rfl, rfl⟩, by decide, rfl⟩

theorem test_witness_StepRefusals :
    (code [0x0F]).ready ∧ (code [0x0F]).queue = [] ∧
      decode (Spec.codeBytes (code [0x0F])) = .error .undefinedOpcode ∧
      ({ code [0xF8] with pfx := { Prefixes.none with rep := some .repe } } : State).ready ∧
      decode (Spec.codeBytes (code [0xF8])) = .ok (.clc, [0, 0, 0, 0, 0]) ∧ isString .clc = false ∧
      isPrefix .clc = false :=
  ⟨⟨rfl, rfl, rfl, rfl⟩, rfl, by decide, ⟨rfl, rfl, rfl, rfl⟩, by decide, rfl, rfl⟩

/-- Statement StepRefusals: code that ends at a device, a read where nothing answers, and one where something does. -/
theorem test_witness_StepRefusals_platform :
    holed.ready ∧ holed.queue = [] ∧ decode (Spec.codeBytes { holed with mem := [(0x10100, 0x8A)] }) = .error .truncated ∧
      holed.kindAt 0x20010 = .absent ∧
      (∃ u c, run (holed.placeCode 0 [0x8A, 0x07]) = .next u ∧ u.bus = [c] ++ holed.bus ∧ c.addresses = [0x20010]) ∧
      ∃ u c, run (code [0x8A, 0x07]) = .next u ∧ u.bus = [c] ++ (code []).bus ∧ c.addresses = [0x20000] :=
  ⟨⟨rfl, rfl, rfl, rfl⟩, rfl, by decide, by decide, ⟨_, _, rfl, rfl, rfl⟩, ⟨_, _, rfl, rfl, rfl⟩⟩

/-- Where the platform has plain memory everywhere no address is absent. -/
theorem noHoles_of_empty {s : State} (h : s.platform = []) : Spec.NoHoles s := fun a => by
  unfold State.kindAt; rw [h]; exact nofun

/-- `start` with AX, BX and DX. -/
def operands (ax bx dx : Word) : State := { start with regs := { start.regs with ax := ax, bx := bx, dx := dx } }

/-- Statement Divide: the greatest quotients. -/
theorem test_witness_Divide :
    ((operands 0x00FF 1 0).rm8 (.reg .bl)).toNat ≠ 0 ∧
      (operands 0x00FF 1 0).regs.ax.toNat / ((operands 0x00FF 1 0).rm8 (.reg .bl)).toNat = 2 ^ 8 - 1 ∧
      ((operands 0xFFFF 1 0).rm16 (.reg .bx)).toNat ≠ 0 ∧
      ((operands 0xFFFF 1 0).regs.dx.toNat * 2 ^ 16 + (operands 0xFFFF 1 0).regs.ax.toNat)
        / ((operands 0xFFFF 1 0).rm16 (.reg .bx)).toNat = 2 ^ 16 - 1 := by decide

/-- The quotients of statements SignedDivide and DivideErrors, byte form with divisor BL. -/
def byteQuotient (ax bx : Word) : Int := (operands ax bx 0).regs.ax.toInt.tdiv ((operands ax bx 0).rm8 (.reg .bl)).toInt

/-- The quotients of statements SignedDivide and DivideErrors, word form with divisor BX. -/
def wordQuotient (dx ax bx : Word) : Int :=
  ((operands ax bx dx).regs.dx ++ (operands ax bx dx).regs.ax : BitVec 32).toInt.tdiv
    ((operands ax bx dx).rm16 (.reg .bx)).toInt

/-- Statement SignedDivide: the greatest, the least and the free quotient, byte and word. -/
theorem test_witness_SignedDivide :
    byteQuotient 0x007F 1 = 2 ^ 7 - 1 ∧ byteQuotient 0xFF81 1 = -(2 ^ 7) + 1 ∧ byteQuotient 0xFF80 1 = -(2 ^ 7) ∧
      wordQuotient 0 0x7FFF 1 = 2 ^ 15 - 1 ∧ wordQuotient 0xFFFF 0x8001 1 = -(2 ^ 15) + 1 ∧
      wordQuotient 0xFFFF 0x8000 1 = -(2 ^ 15) ∧ ((operands 0 1 0).rm8 (.reg .bl)).toInt = 1 ∧
      ((operands 0 1 0).rm16 (.reg .bx)).toInt = 1 ∧ (operands 0 1 0).mem.wf = true := by decide

/-- Statement DivideErrors: divisor 0, and the first quotients that do not fit, byte and word. -/
theorem test_witness_DivideErrors :
    ((operands 1 0 0).rm8 (.reg .bl)).toNat = 0 ∧ ((operands 1 0 0).rm16 (.reg .bx)).toNat = 0 ∧
      (operands 0x0100 1 0).regs.ax.toNat / ((operands 0x0100 1 0).rm8 (.reg .bl)).toNat = 2 ^ 8 ∧
      ((operands 0 1 1).regs.dx.toNat * 2 ^ 16 + (operands 0 1 1).regs.ax.toNat)
        / ((operands 0 1 1).rm16 (.reg .bx)).toNat = 2 ^ 16 ∧
      ((operands 1 0 0).rm8 (.reg .bl)).toInt = 0 ∧ ((operands 1 0 0).rm16 (.reg .bx)).toInt = 0 ∧
      byteQuotient 0xFF7F 1 < -(2 ^ 7) ∧ byteQuotient 0x0080 1 = 2 ^ 7 ∧ wordQuotient 0xFFFF 0x7FFF 1 < -(2 ^ 15) ∧
      wordQuotient 0 0x8000 1 = 2 ^ 15 ∧ (operands 0 0 0).mem.wf = true := by decide

/-- `sample` with a count in CL. -/
def count (n : Byte) : State := sample.setReg8 .cl n

/-- Statements ShiftsByCl and RotatesByCl: counts 0, 1 and 255. -/
theorem test_witness_shifts_by_cl :
    (count 0).mem.wf = true ∧ (count 0).reg8 .cl = 0 ∧ (count 1).reg8 .cl ≠ 0 ∧ (count 1).mem.wf = true ∧
      (count 255).reg8 .cl ≠ 0 ∧ (count 255).mem.wf = true := by decide

/-- Statement WordStorage: the last offsets with a next one, and FFFFh. -/
theorem test_witness_WordStorage :
    sample.mem.wf = true ∧ (0xFFFE : Word) ≠ 0xFFFF ∧ (0x0000 : Word) ≠ 0xFFFF ∧ Spec.PlainWord sample 0x2000 0xFFFE ∧
      holed.isMemory (physAddr 0x2000 0x0010) = false ∧ holed.isMemory (physAddr 0x2000 0x0011) = true := by
  refine ⟨?_, ?_, ?_, ⟨?_, ?_⟩, ?_, ?_⟩ <;> decide

/-- Statement AddressLoads: offsets before FFFEh, and the two after them. -/
theorem test_witness_AddressLoads : (0xFFFD : Word).toNat < 0xFFFE ∧ ¬ (0xFFFE : Word).toNat < 0xFFFE := by decide

/-- Statement EffectiveAddress: with and without an override. -/
theorem test_witness_EffectiveAddress :
    ({ start with pfx := { Prefixes.none with seg := some .cs } } : State).pfx.seg = some .cs ∧ start.pfx.seg = none := by
  decide

/-- Statements PushForms, PopForms and PushPop: registers and memory other than SP. -/
theorem test_witness_stack :
    sample.mem.wf = true ∧ Reg16.bp ≠ .sp ∧ Reg16.ax ≠ .sp ∧ Rm16.reg .bp ≠ .reg .sp ∧
      Rm16.mem (.direct 0x0010) ≠ .reg .sp := by decide

/-- Statements PushPop, FlagImage, CallReturn and InterruptRoundTrip: a stack in plain memory. -/
theorem test_witness_stack_memory :
    Spec.PlainWord sample sample.ss (sample.regs.sp - 2) ∧ Spec.PlainWord sample sample.ss (sample.regs.sp - 4) ∧
      Spec.PlainWord sample sample.ss (sample.regs.sp - 6) := by
  refine ⟨⟨?_, ?_⟩, ⟨?_, ?_⟩, ⟨?_, ?_⟩⟩ <;> decide

/-- Statement PortTransfers: port FFFFh, the even and the odd port below it, and the last port of the immediate forms. -/
theorem test_witness_PortTransfers :
    (operands 0 0 0xFFFF).regs.dx = 0xFFFF ∧ (operands 0 0 0xFFFE).regs.dx ≠ 0xFFFF ∧
      (operands 0 0 0xFFFE).regs.dx.toNat % 2 = 0 ∧ (operands 0 0 0xFFFD).regs.dx.toNat % 2 = 1 ∧
      ((0xFF : Byte).setWidth 16 : Word) ≠ 0xFFFF ∧ ((0xFF : Byte).setWidth 16 : Word).toNat % 2 = 1 ∧
      ((0xFE : Byte).setWidth 16 : Word).toNat % 2 = 0 := by decide

/-- Statement SoftwareInterrupts: INTO with and without overflow. -/
theorem test_witness_SoftwareInterrupts :
    ({ sample with flags := { sample.flags with of := true } } : State).mem.wf = true ∧
      ({ sample with flags := { sample.flags with of := true } } : State).flags.of = true ∧ sample.flags.of = false := by
  decide

/-- CLC at CS:IP with TF = `tf`. -/
def stepping (tf : Bool) : State := { code [0xF8] with flags := { start.flags with tf := tf } }

/-- Statement SingleStep: CLC begun with TF = 1 and with TF = 0, nothing requested. -/
theorem test_witness_SingleStep (tf : Bool) :
    ∃ u t, (stepping tf).ready ∧ Spec.NoHoles (stepping tf) ∧ (stepping tf).fetch = .ok (.clc, u) ∧ (stepping tf).misplacedRepeat .clc = false ∧
      isPrefix .clc = false ∧ exec .clc u = .next t ∧ t.inProgress = none ∧ t.shadow = false ∧ t.raised = false ∧
      t.mem.wf = true ∧ ¬ Spec.Requested t false ∧ (stepping tf).flags.tf = tf :=
  ⟨_, _, ⟨rfl, rfl, rfl, rfl⟩, noHoles_of_empty rfl, rfl, rfl, rfl, rfl, rfl, rfl, rfl, (by decide : (code [0xF8]).mem.wf = true),
    fun h => h.elim nofun fun h => h.elim (fun h => nomatch h.1) nofun, rfl⟩

/-- `sample` with requests, the interrupt flag, the note of a raised interrupt and the halt state. -/
def asked (nmi intr ifl raised halted : Bool) : State :=
  { sample with
    pins := { sample.pins with nmiPending := nmi, intrLevel := intr, intrType := 0x40 }
    flags := { sample.flags with ifl := ifl }
    raised := raised
    halted := halted }

/-- INTR asked with IF = 1, and NMI pulses to come while sequences run. -/
def pulsed (l : List Bool) : State :=
  { asked false true true false false with pins := { (asked false true true false false).pins with nmiDuring := l } }

/-- INTR, and NMI pulsed while its sequence runs (R352): two frames, the latch clear again. -/
theorem test_R352_pulse_in_a_sequence :
    ((pulsed [true]).boundary false).regs.sp = 0x00F4 ∧ ((pulsed [true]).boundary false).pins.nmiPending = false ∧
      ((pulsed [true]).boundary false).pins.nmiDuring = [] := by decide

/-- INTR, an owed trap, and NMI pulsed while the sequence of the trap runs: three frames, the last by NMI. -/
theorem test_R353_pulse_after_the_trap :
    ((pulsed [false, true]).boundary true).regs.sp = 0x00EE ∧
      ((pulsed [false, true]).boundary true).bus.head?.map (·.target) = some (.memory 0x0000A) := by decide

/-- Statement BoundaryOrder: nothing, NMI with an enabled INTR, INTR alone, INTR masked, both cases after a raised type, and
what follows a sequence: a pulse that came while it ran, none, and NMI latched before it. -/
theorem test_witness_BoundaryOrder :
    (asked false false true false false).mem.wf = true ∧ (asked false false true false false).shadow = false ∧
      (asked true true true false false).raised = false ∧ (asked true true true false false).pins.nmiPending = true ∧
      (asked false true true false false).pins.nmiPending = false ∧
      (asked false true true false false).pins.intrLevel = true ∧ (asked false true true false false).flags.ifl = true ∧
      ¬ ((asked false true false false false).pins.intrLevel = true ∧
        (asked false true false false false).flags.ifl = true) ∧
      (asked true false false true false).raised = true ∧ (asked true false false true false).pins.nmiPending = true ∧
      (asked false false false true false).pins.nmiPending = false ∧
      ((pulsed [true]).pins.nmiPending || (pulsed [true]).pins.nmiDuring.headD false) = true ∧
      ((pulsed [false, true]).pins.nmiPending || (pulsed [false, true]).pins.nmiDuring.headD false) = false ∧
      ((pulsed []).pins.nmiPending || (pulsed []).pins.nmiDuring.headD false) = false := by decide

theorem asked_inv (nmi intr ifl halted : Bool) : (asked nmi intr ifl false halted).Inv where
  memory := (by decide : sample.mem.wf = true)
  queue := nofun
  ahead := Nat.zero_le _
  shadow := rfl
  raised := rfl
  halt _ := ⟨rfl, rfl⟩
  progress := trivial

/-- Statement Halting: a halted state with INTR masked, with NMI, and with INTR enabled. -/
theorem test_witness_Halting :
    (asked false true false false true).Inv ∧ Spec.NoHoles (asked false true false false true) ∧
      (asked false true false false true).pins.clr = false ∧ (asked false true false false true).pins.clrInside = false ∧
      (asked false true false false true).halted = true ∧ (asked true false false false true).Inv ∧
      (asked true false false false true).pins.nmiPending = true ∧ (asked false true true false true).Inv ∧
      (asked false true true false true).pins.nmiPending = false ∧
      (asked false true true false true).pins.intrLevel = true ∧ (asked false true true false true).flags.ifl = true :=
  ⟨asked_inv .., noHoles_of_empty rfl, rfl, rfl, rfl, asked_inv .., rfl, asked_inv .., rfl, rfl, rfl⟩

/-- A repeated LODSB in progress with two elements to go, with requests and a segment prefix. -/
def looping (nmi intr tf : Bool) (seg : Option SReg) : State :=
  { sample with
    pins := { sample.pins with nmiPending := nmi, intrLevel := intr, intrType := 0x40 }
    flags := { sample.flags with ifl := true, tf := tf }
    regs := { sample.regs with cx := 2 }
    pfx := { Prefixes.none with rep := some .repe, seg := seg }
    inProgress := some .lodsb }

/-- One more element, and one still to go. -/
theorem looping_runs (nmi intr tf : Bool) (seg : Option SReg) :
    exec .lodsb { looping nmi intr tf seg with inProgress := none } =
      .next { (lods8 { looping nmi intr tf seg with inProgress := none }).countElement with inProgress := some .lodsb } := by
  have e : ∀ s, exec .lodsb s = repeatString .lodsb false lods8 s := fun _ => rfl
  have h : (looping nmi intr tf seg).pfx.rep = some .repe := rfl
  have h1 : ¬ ((looping nmi intr tf seg).regs.cx = 0) := (by decide : ¬ (2 : Word) = 0)
  have h2 : ¬ ((lods8 { looping nmi intr tf seg with inProgress := none }).countElement.regs.cx = 0) :=
    (by decide : ¬ (2 - 1 : Word) = 0)
  simp only [e, repeatString, h, h1, h2]
  simp

/-- Statement InterruptWindow: a state in the middle of REP LODSB, whatever is requested: no request, each request alone, and
a request under two prefixes. -/
theorem test_witness_InterruptWindow (nmi intr tf : Bool) (seg : Option SReg) :
    (looping nmi intr tf seg).Inv ∧ Spec.NoHoles (looping nmi intr tf seg) ∧ (looping nmi intr tf seg).pins.clr = false ∧
      (looping nmi intr tf seg).pins.clrInside = false ∧
      (looping nmi intr tf seg).halted = false ∧ (looping nmi intr tf seg).inProgress = some .lodsb ∧
      ∃ t, exec .lodsb { looping nmi intr tf seg with inProgress := none } = .next t ∧ t.inProgress = some .lodsb ∧
        t.mem.wf = true ∧ t.pins.nmiPending = nmi ∧ t.pins.intrLevel = intr ∧ t.flags.ifl = true ∧
        (looping nmi intr tf seg).flags.tf = tf ∧ t.pfx.rep ≠ none ∧ t.pfx.seg = seg ∧ t.pfx.lock = false :=
  ⟨⟨(by decide : sample.mem.wf = true), nofun, Nat.zero_le _, rfl, rfl, nofun, .inl ⟨rfl, nofun, (by decide : (2 : Word) ≠ 0)⟩⟩,
    noHoles_of_empty rfl, rfl, rfl, rfl, rfl, _, looping_runs nmi intr tf seg, rfl, (by decide : sample.mem.wf = true), rfl, rfl, rfl, rfl, nofun, rfl, rfl⟩

/-- Statements StringMoves and StringCompares. -/
theorem test_witness_strings : sample.mem.wf = true ∧ sample.pfx.rep = none := by decide

/-- Statement RepeatedStrings: CX = 0, 1 and FFFFh under each prefix. -/
theorem test_witness_RepeatedStrings (p : RepeatPrefix) (cx : Word) :
    isString .cmpsb = true ∧
      ({ start with pfx := { Prefixes.none with rep := some p }, regs := { start.regs with cx := cx } } : State).pfx.rep =
        some p ∧
      ({ start with pfx := { Prefixes.none with rep := some p }, regs := { start.regs with cx := cx } } : State).regs.cx = cx
      ∧ start.inProgress = none := ⟨rfl, rfl, rfl, rfl⟩

/-- Statement WaitAndEscape: both levels of TEST. -/
theorem test_witness_WaitAndEscape :
    start.pins.testLevel = false ∧
      ({ start with pins := { start.pins with testLevel := true } } : State).pins.testLevel = true := by decide

/-- Statement PrefixBytes: no prefix in force, and one of each kind. -/
theorem test_witness_PrefixBytes :
    start.pfx.seg = none ∧ start.pfx.rep = none ∧ start.pfx.lock = false ∧
      ({ seg := some .es, rep := some .repne, lock := true } : Prefixes).seg ≠ none ∧
      ({ seg := some .es, rep := some .repne, lock := true } : Prefixes).rep ≠ none := by decide

/-- The fetch cycles (R75, R382) of three bytes from an even address on, and of three from an odd one. -/
theorem test_R382_fetch_cycles :
    (code [0xB8, 0x34, 0x12]).fetchCycles [0, 1, 2] =
        [⟨.read, .fetch 0x10100, .word 0x34B8, false⟩, ⟨.read, .fetch 0x10102, .byte 0x12, false⟩] ∧
      (code [0xB8, 0x34, 0x12, 0x90]).fetchCycles [1, 2, 3] =
        [⟨.read, .fetch 0x10101, .byte 0x34, false⟩, ⟨.read, .fetch 0x10102, .word 0x9012, false⟩] := by decide

/-- Statement CodeFetch: an empty queue, an address outside the next code bytes, the last one inside, a jump that runs. -/
theorem test_witness_CodeFetch :
    start.queue = [] ∧ (∀ k < start.params.queueLen, (0x10106 : PhysAddr) ≠ physAddr start.cs (start.ip + BitVec.ofNat 16 k)) ∧
      physAddr start.cs (start.ip + BitVec.ofNat 16 5) = 0x10105 ∧ 5 < start.params.queueLen ∧
      ∃ t, Instr.jmpShort 0xFE ∈ [Instr.jmpShort 0xFE] ∧ exec (.jmpShort 0xFE) start = .next t :=
  ⟨rfl, by decide, by decide, by decide, _, by decide, rfl⟩

/-- Statement CodeFetch: a fetch with nothing in the queue, and with the whole queue filled. -/
theorem test_witness_CodeFetch_cycles :
    (∃ u, (code [0xF8]).fetch = .ok (.clc, u)) ∧ (code [0xF8]).ahead ≤ (code [0xF8]).params.queueLen ∧
      (∃ u, ({ code [0xF8] with ahead := 6 } : State).fetch = .ok (.clc, u)) ∧
      ({ code [0xF8] with ahead := 6 } : State).ahead ≤ ({ code [0xF8] with ahead := 6 } : State).params.queueLen :=
  ⟨⟨_, rfl⟩, Nat.zero_le _, ⟨_, rfl⟩, le_refl 6⟩

theorem test_witness_ResetEvent :
    ({ sample with pins := { sample.pins with clr := true } } : State).pins.clr = true := by decide

/-- Statement ResetEvent: CLR inside a step that stores. -/
theorem test_witness_ResetEvent_inside :
    ∃ u c, ({ code [0x88, 0x07] with pins := { start.pins with clrInside := true } } : State).pins.clrInside = true ∧
      run { code [0x88, 0x07] with pins := { start.pins with clrInside := true } } = .next u ∧
      u.bus = [c] ++ start.bus ∧ c.direction = .write ∧ u.fetches = u.fetches ++ start.fetches :=
  ⟨_, _, rfl, rfl, rfl, rfl, (List.append_nil _).symm⟩

/-- CLR inside an element of REP MOVSB with a segment override, a trap owed. -/
def cut : State :=
  { start with
    regs := { start.regs with cx := 2 }, flags := { start.flags with tf := true }, pfx := ⟨some .es, some .repe, false⟩
    inProgress := some .movsb, pins := { start.pins with clrInside := true } }

/-- Statement ResetEvent: CLR inside an element with two prefixes and a trap owed. -/
theorem test_witness_ResetEvent_two_prefixes :
    ∃ t, cut.pins.clrInside = true ∧ cut.halted = false ∧ cut.inProgress = some .movsb ∧ isString .movsb = true ∧
      exec .movsb { cut with inProgress := none } = .next t :=
  ⟨_, rfl, rfl, rfl, rfl, rfl⟩

/-- Statement InvStep: a state with the invariant and a step from it. -/
theorem test_witness_InvStep : ∃ t, (asked false false true false false).Inv ∧
    step (asked false false true false false) = .next t :=
  ⟨_, asked_inv .., rfl⟩

/-- The step of `cut` is the reset, no refusal (R400). -/
theorem test_R400_two_prefixes : (match step cut with
    | .next t => t.cs == 0xFFFF && decide (t.inProgress = none) && !t.flags.tf | _ => false) = true := by decide

end Sys2Proof.Tests
end

section
/-!
SUPPORT. The state inside a step: what every instruction keeps of it, from the operations up to the dispatch.
-/
namespace Sys2Proof.Machine

/-! ## Answers -/

/-- The next state of the answer satisfies `P`, if there is one. -/
def Leaves (P : State → Prop) : Result → Prop
  | .next t => P t
  | .fault _ => True
  | .refused _ => True

theorem leaves_iff {P : State → Prop} {r : Result} : Leaves P r ↔ ∀ t, r = .next t → P t := by
  cases r <;> simp [Leaves]

/-! ## The invariant inside a step -/

/-- The part of the invariant that holds while an instruction runs: canonical memory, a queue of at most QUEUE_LEN
bytes, and nothing left in progress (R49, R50). -/
structure State.Running (s : State) : Prop where
  memory : s.mem.wf = true
  ahead : s.ahead ≤ s.params.queueLen
  idle : s.inProgress = none

/-- No note for the boundary and no halt: so every instruction begins, and so the prefixes and the elements of a string
instruction end. -/
structure State.Quiet (s : State) : Prop where
  shadow : s.shadow = false
  raised : s.raised = false
  awake : s.halted = false

/-- The invariant without its clause on the queue, which `State.trim` restores at the end of a step. -/
structure State.Tidy (s : State) : Prop where
  memory : s.mem.wf = true
  ahead : s.ahead ≤ s.params.queueLen
  shadow : s.shadow = false
  raised : s.raised = false
  halt : s.halted = true → s.inProgress = none ∧ s.pfx = Prefixes.none
  progress : s.progressOk

theorem State.progressOk_of_idle {s : State} (h : s.inProgress = none) : s.progressOk := by
  simp [State.progressOk, h]

theorem State.Quiet.not_halted {s : State} (q : s.Quiet) {p : Prop} (h : s.halted = true) : p := by
  simp [q.awake] at h

theorem State.Running.tidy {s : State} (h : s.Running) (q : s.Quiet) : s.Tidy where
  memory := h.memory
  ahead := h.ahead
  shadow := q.shadow
  raised := q.raised
  halt := q.not_halted
  progress := State.progressOk_of_idle h.idle

/-- Besides its result a two-operand operation writes flags and uses up free values, no more. -/
def BinOp.FlagsAlone {w : Nat} (op : BinOp w) : Prop :=
  ∀ s a b, (op s a b).2 = { s with flags := (op s a b).2.flags, draws := (op s a b).2.draws }

/-- Besides its result a one-operand operation writes flags and uses up free values, no more. -/
def UnOp.FlagsAlone {w : Nat} (op : UnOp w) : Prop :=
  ∀ s a, (op s a).2 = { s with flags := (op s a).2.flags, draws := (op s a).2.draws }

namespace State.Running
variable {s : State}

/-! ## The operations keep `Running` -/

/-- Registers, flags, prefixes, inputs, notes and the records of bus cycles are no part of `Running`. -/
theorem of_same {t : State} (h : s.Running) (hm : t.mem = s.mem) (ha : t.ahead = s.ahead) (hp : t.params = s.params)
    (hi : t.inProgress = s.inProgress) : t.Running :=
  ⟨hm ▸ h.memory, ha ▸ hp ▸ h.ahead, hi.trans h.idle⟩

theorem setReg16 (h : s.Running) (r : Reg16) (v : Word) : (s.setReg16 r v).Running := h.of_same rfl rfl rfl rfl

theorem setReg8 (h : s.Running) (r : Reg8) (v : Byte) : (s.setReg8 r v).Running := h.of_same rfl rfl rfl rfl

theorem setSreg (h : s.Running) (r : SReg) (v : Word) : (s.setSreg r v).Running := by
  cases r <;> exact h.of_same rfl rfl rfl rfl

theorem loadSreg (h : s.Running) (r : SReg) (v : Word) : (s.loadSreg r v).Running :=
  (h.setSreg r v).of_same rfl rfl rfl rfl

theorem setFlags (h : s.Running) (f : Flags) : (s.setFlags f).Running := h.of_same rfl rfl rfl rfl

theorem drawn (h : s.Running) (n : Nat) : (s.drawn n).Running := h.of_same rfl rfl rfl rfl

theorem onBus (h : s.Running) (cs : List BusCycle) : (s.onBus cs).Running := h.of_same rfl rfl rfl rfl

theorem noteGet8 (h : s.Running) (l : Loc8) : (s.noteGet8 l).Running := by
  cases l with
  | reg r => exact h
  | mem seg off => exact h.onBus _

theorem noteGet16 (h : s.Running) (l : Loc16) : (s.noteGet16 l).Running := by
  cases l with
  | reg r => exact h
  | mem seg off => exact h.onBus _

theorem noteRm8 (h : s.Running) (m : Rm8) : (s.noteRm8 m).Running := h.noteGet8 _

theorem noteRm16 (h : s.Running) (m : Rm16) : (s.noteRm16 m).Running := h.noteGet16 _

theorem noteFar (h : s.Running) (m : Mem) : (s.noteFar m).Running := (h.onBus _).onBus _

theorem writeByte (h : s.Running) (seg off : Word) (v : Byte) : (s.writeByte seg off v).Running :=
  ⟨writeByte_wf h.memory seg off v, h.ahead, h.idle⟩

theorem writeWord (h : s.Running) (seg off v : Word) : (s.writeWord seg off v).Running :=
  ⟨writeWord_wf h.memory seg off v, h.ahead, h.idle⟩

theorem put8 (h : s.Running) (l : Loc8) (v : Byte) : (s.put8 l v).Running := by
  cases l with
  | reg r => exact h.setReg8 r v
  | mem seg off => exact h.writeByte seg off v

theorem put16 (h : s.Running) (l : Loc16) (v : Word) : (s.put16 l v).Running := by
  cases l with
  | reg r => exact h.setReg16 r v
  | mem seg off => exact h.writeWord seg off v

theorem underLock {f : State → State} (h : s.Running) (hf : ∀ u : State, u.Running → (f u).Running) :
    (s.underLock f).Running :=
  (hf { s with pfx := { s.pfx with lock := true } } (h.of_same rfl rfl rfl rfl)).of_same rfl rfl rfl rfl

theorem push (h : s.Running) (v : Word) : (s.push v).Running := (h.setReg16 _ _).writeWord _ _ _

theorem pushFlags (h : s.Running) : s.pushFlags.Running := (h.push _).drawn 1

theorem popped (h : s.Running) : s.popped.Running := (h.onBus _).setReg16 _ _

/-- A taken transfer leaves an empty queue (R250). -/
theorem jumpNear (h : s.Running) (target : Word) : (s.jumpNear target).Running := ⟨h.memory, Nat.zero_le _, h.idle⟩

theorem jumpFar (h : s.Running) (seg off : Word) : (s.jumpFar seg off).Running := ⟨h.memory, Nat.zero_le _, h.idle⟩

theorem endPrefixes (h : s.Running) : s.endPrefixes.Running := h.of_same rfl rfl rfl rfl

theorem interrupt (h : s.Running) (t : Byte) : (s.interrupt t).Running :=
  ⟨interrupt_wf h.memory t, Nat.zero_le _, h.idle⟩

theorem raise (h : s.Running) (t : Byte) : (s.raise t).Running :=
  (h.endPrefixes.interrupt t).of_same (by simp) (by simp) (by simp) (by simp)

theorem returnFromInterrupt (h : s.Running) : s.returnFromInterrupt.Running :=
  (h.popped.popped.popped.setFlags _).jumpFar _ _

/-! ## The shared meanings keep `Running` -/

theorem of_flags {t : State} (h : s.Running) (e : t = { s with flags := t.flags, draws := t.draws }) : t.Running := by
  rw [e]
  exact h.of_same rfl rfl rfl rfl

theorem binary8 {op : BinOp 8} (h : s.Running) (hop : BinOp.FlagsAlone op) (l : Loc8) (b : Byte) :
    Leaves State.Running (binary8 op l b s) :=
  ((h.noteGet8 l).of_flags (hop _ _ _)).put8 l _

theorem binary16 {op : BinOp 16} (h : s.Running) (hop : BinOp.FlagsAlone op) (l : Loc16) (b : Word) :
    Leaves State.Running (binary16 op l b s) :=
  ((h.noteGet16 l).of_flags (hop _ _ _)).put16 l _

theorem flags8 {op : BinOp 8} (h : s.Running) (hop : BinOp.FlagsAlone op) (l : Loc8) (b : Byte) :
    Leaves State.Running (flags8 op l b s) :=
  (h.noteGet8 l).of_flags (hop _ _ _)

theorem flags16 {op : BinOp 16} (h : s.Running) (hop : BinOp.FlagsAlone op) (l : Loc16) (b : Word) :
    Leaves State.Running (flags16 op l b s) :=
  (h.noteGet16 l).of_flags (hop _ _ _)

theorem unary8 {op : UnOp 8} (h : s.Running) (hop : UnOp.FlagsAlone op) (l : Loc8) :
    Leaves State.Running (unary8 op l s) :=
  ((h.noteGet8 l).of_flags (hop _ _)).put8 l _

theorem unary16 {op : UnOp 16} (h : s.Running) (hop : UnOp.FlagsAlone op) (l : Loc16) :
    Leaves State.Running (unary16 op l s) :=
  ((h.noteGet16 l).of_flags (hop _ _)).put16 l _

theorem shift8 (h : s.Running) (ordinary static : Bool) (f : ShiftStep 8) (n : Nat) (l : Loc8) :
    Leaves State.Running (shift8 ordinary static f n l s) :=
  (((h.noteGet8 l).setFlags _).drawn 2).put8 l _

theorem shift16 (h : s.Running) (ordinary static : Bool) (f : ShiftStep 16) (n : Nat) (l : Loc16) :
    Leaves State.Running (shift16 ordinary static f n l s) :=
  (((h.noteGet16 l).setFlags _).drawn 2).put16 l _

theorem shiftCl8 (h : s.Running) (ordinary : Bool) (f : ShiftStep 8) (l : Loc8) :
    Leaves State.Running (shiftCl8 ordinary f l s) := by
  unfold Machine.shiftCl8
  split
  · exact (h.noteGet8 l).put8 l _
  · exact h.shift8 _ _ _ _ l

theorem shiftCl16 (h : s.Running) (ordinary : Bool) (f : ShiftStep 16) (l : Loc16) :
    Leaves State.Running (shiftCl16 ordinary f l s) := by
  unfold Machine.shiftCl16
  split
  · exact (h.noteGet16 l).put16 l _
  · exact h.shift16 _ _ _ _ l

theorem setDxAx (h : s.Running) (v : BitVec 32) : (s.setDxAx v).Running := (h.setReg16 _ _).setReg16 _ _

theorem multiplied (h : s.Running) (big : Bool) : (s.multiplied big).Running := (h.setFlags _).drawn 4

theorem mul8 (h : s.Running) (b : Byte) : Leaves State.Running (mul8 b s) := (h.multiplied _).setReg16 _ _

theorem imul8 (h : s.Running) (b : Byte) : Leaves State.Running (imul8 b s) := (h.multiplied _).setReg16 _ _

theorem mul16 (h : s.Running) (b : Word) : Leaves State.Running (mul16 b s) := (h.multiplied _).setDxAx _

theorem imul16 (h : s.Running) (b : Word) : Leaves State.Running (imul16 b s) := (h.multiplied _).setDxAx _

theorem divided (h : s.Running) : s.divided.Running := (h.setFlags _).drawn 6

theorem divideError8 (h : s.Running) : Leaves State.Running (divideError8 s) := (h.divided.setReg16 _ _).raise 0

theorem divideError16 (h : s.Running) : Leaves State.Running (divideError16 s) :=
  ((h.divided.setReg16 _ _).setReg16 _ _).raise 0

theorem div8 (h : s.Running) (b : Byte) : Leaves State.Running (div8 b s) := by
  unfold Machine.div8
  dsimp only
  split
  · exact h.divideError8
  · exact h.divided.setReg16 _ _

theorem div16 (h : s.Running) (b : Word) : Leaves State.Running (div16 b s) := by
  unfold Machine.div16
  dsimp only
  split
  · exact h.divideError16
  · exact (h.divided.setReg16 _ _).setReg16 _ _

theorem idiv8 (h : s.Running) (b : Byte) : Leaves State.Running (idiv8 b s) := by
  unfold Machine.idiv8
  dsimp only
  split
  · exact h.divideError8
  · exact h.divided.setReg16 _ _

theorem idiv16 (h : s.Running) (b : Word) : Leaves State.Running (idiv16 b s) := by
  unfold Machine.idiv16
  dsimp only
  split
  · exact h.divideError16
  · exact (h.divided.setReg16 _ _).setReg16 _ _

theorem jumpIf (h : s.Running) (c : Bool) (rel : Byte) : Leaves State.Running (jumpIf c rel s) := by
  cases c with
  | true => exact h.jumpNear _
  | false => exact h

theorem loopIf (h : s.Running) (c : Bool) (rel : Byte) : Leaves State.Running (loopIf c rel s) :=
  (h.setReg16 _ _).jumpIf _ rel

theorem inWord (h : s.Running) (port : Word) : Leaves State.Running (inWord port s) := by
  unfold Machine.inWord
  split
  · trivial
  · exact (h.onBus _).setReg16 _ _

theorem outWord (h : s.Running) (port : Word) : Leaves State.Running (outWord port s) := by
  unfold Machine.outWord
  split
  · trivial
  · exact h.onBus _

theorem packedResult (h : s.Running) (al : Byte) : (s.packedResult al).Running := ((h.setFlags _).drawn 1).setReg8 _ _

theorem unpackedResult (h : s.Running) (al ah : Byte) : (s.unpackedResult al ah).Running :=
  ((h.setFlags _).drawn 4).setReg16 _ _

theorem aaa (h : s.Running) : s.aaa.Running := by
  unfold State.aaa
  split <;> exact h.unpackedResult _ _

theorem aas (h : s.Running) : s.aas.Running := by
  unfold State.aas
  split <;> exact h.unpackedResult _ _

theorem tensResult (h : s.Running) (al ah : Byte) : (s.tensResult al ah).Running :=
  ((h.setFlags _).drawn 3).setReg16 _ _

theorem into (h : s.Running) : Leaves State.Running (execInto s) := by
  unfold execInto
  split
  · exact h.raise 4
  · exact h

end State.Running

/-! ## Prefixes -/

/-- The same state but for the prefixes in force. -/
def State.OnlyPrefix (s t : State) : Prop := ∃ p, t = { s with pfx := p }

theorem overrideSegment_leaves (s : State) (r : SReg) : Leaves s.OnlyPrefix (overrideSegment r s) := by
  unfold overrideSegment
  split
  · trivial
  · exact ⟨_, rfl⟩

theorem repeatNext_leaves (s : State) (p : RepeatPrefix) : Leaves s.OnlyPrefix (repeatNext p s) := by
  unfold repeatNext
  split
  · trivial
  · exact ⟨_, rfl⟩

theorem execLockPrefix_leaves (s : State) : Leaves s.OnlyPrefix (execLockPrefix s) := by
  unfold execLockPrefix
  split
  · trivial
  · exact ⟨_, rfl⟩

/-! ## Strings -/

/-- One element of a string instruction keeps `Running`, and leaves the notes, the halt state and the prefixes as they
were. -/
structure Element (prim : State → State) : Prop where
  running : ∀ s : State, s.Running → (prim s).Running
  frame : ∀ s : State, (prim s).shadow = s.shadow ∧ (prim s).raised = s.raised ∧ (prim s).halted = s.halted ∧
    (prim s).pfx = s.pfx

theorem movs8_element : Element movs8 where
  running _ h := (((h.onBus _).writeByte _ _ _).setReg16 _ _).setReg16 _ _
  frame _ := ⟨rfl, rfl, rfl, rfl⟩

theorem movs16_element : Element movs16 where
  running _ h := (((h.onBus _).writeWord _ _ _).setReg16 _ _).setReg16 _ _
  frame _ := ⟨rfl, rfl, rfl, rfl⟩

theorem cmps8_element : Element cmps8 where
  running _ h := ((((h.onBus _).onBus _).setFlags _).setReg16 _ _).setReg16 _ _
  frame _ := ⟨rfl, rfl, rfl, rfl⟩

theorem cmps16_element : Element cmps16 where
  running _ h := ((((h.onBus _).onBus _).setFlags _).setReg16 _ _).setReg16 _ _
  frame _ := ⟨rfl, rfl, rfl, rfl⟩

theorem scas8_element : Element scas8 where
  running _ h := ((h.onBus _).setFlags _).setReg16 _ _
  frame _ := ⟨rfl, rfl, rfl, rfl⟩

theorem scas16_element : Element scas16 where
  running _ h := ((h.onBus _).setFlags _).setReg16 _ _
  frame _ := ⟨rfl, rfl, rfl, rfl⟩

theorem lods8_element : Element lods8 where
  running _ h := ((h.onBus _).setReg8 _ _).setReg16 _ _
  frame _ := ⟨rfl, rfl, rfl, rfl⟩

theorem lods16_element : Element lods16 where
  running _ h := ((h.onBus _).setReg16 _ _).setReg16 _ _
  frame _ := ⟨rfl, rfl, rfl, rfl⟩

theorem stos8_element : Element stos8 where
  running _ h := (h.writeByte _ _ _).setReg16 _ _
  frame _ := ⟨rfl, rfl, rfl, rfl⟩

theorem stos16_element : Element stos16 where
  running _ h := (h.writeWord _ _ _).setReg16 _ _
  frame _ := ⟨rfl, rfl, rfl, rfl⟩

/-- A string instruction ends, or stays in progress with elements to go (R302). -/
theorem repeatString_leaves {i : Instr} {prim : State → State} {s : State} (hi : isString i = true)
    (hprim : Element prim) (c : Bool) (h : s.Running) (q : s.Quiet) :
    Leaves (fun t => t.Running ∨ t.Tidy) (repeatString i c prim s) := by
  have h1 : (prim s).countElement.Running := (hprim.running s h).setReg16 _ _
  obtain ⟨hshadow, hraised, hhalted, hpfx⟩ := hprim.frame s
  obtain ⟨_, e⟩ | ⟨_, _, _, e⟩ | ⟨_, _, _, _, e⟩ | ⟨p, hp, _, hc, e⟩ := repeatString_cases i c prim s <;> rw [e]
  · exact .inl (hprim.running s h)
  · exact .inl h
  · exact .inl h1
  · have hr : (prim s).pfx.rep ≠ none := by simp [hpfx, hp]
    have q1 : (prim s).Quiet := ⟨hshadow.trans q.shadow, hraised.trans q.raised, hhalted.trans q.awake⟩
    exact .inr ⟨h1.memory, h1.ahead, q1.shadow, q1.raised, q1.not_halted, .inl ⟨hi, hr, hc⟩⟩

/-- WAIT ends, or stays in progress (R328). -/
theorem execWait_leaves {s : State} (h : s.Running) (q : s.Quiet) :
    Leaves (fun t => t.Running ∨ t.Tidy) (execWait s) := by
  unfold execWait
  split
  · exact .inr ⟨h.memory, h.ahead, q.shadow, q.raised, q.not_halted, .inr rfl⟩
  · exact .inl h

/-! ## The dispatch -/

/-- The instructions that can stay in progress between two steps (R302, R328). -/
def isLong (i : Instr) : Bool := isString i || i == .wait

/-- A string instruction or WAIT ends, or stays in progress as the invariant allows. -/
theorem exec_long {s : State} {i : Instr} (hi : isLong i = true) (h : s.Running) (q : s.Quiet) :
    Leaves (fun t => t.Running ∨ t.Tidy) (exec i s) := by
  cases i with
  | movsb => exact repeatString_leaves rfl movs8_element _ h q
  | movsw => exact repeatString_leaves rfl movs16_element _ h q
  | cmpsb => exact repeatString_leaves rfl cmps8_element _ h q
  | cmpsw => exact repeatString_leaves rfl cmps16_element _ h q
  | scasb => exact repeatString_leaves rfl scas8_element _ h q
  | scasw => exact repeatString_leaves rfl scas16_element _ h q
  | lodsb => exact repeatString_leaves rfl lods8_element _ h q
  | lodsw => exact repeatString_leaves rfl lods16_element _ h q
  | stosb => exact repeatString_leaves rfl stos8_element _ h q
  | stosw => exact repeatString_leaves rfl stos16_element _ h q
  | wait => exact execWait_leaves h q
  | _ => cases hi

/-- The seven prefixes record themselves and do nothing else (R52, R119). -/
theorem exec_prefix {i : Instr} (hi : isPrefix i = true) (s : State) : Leaves s.OnlyPrefix (exec i s) := by
  cases i with
  | overrideEs | overrideCs | overrideSs | overrideDs => exact overrideSegment_leaves s _
  | rep | repne => exact repeatNext_leaves s _
  | lockPrefix => exact execLockPrefix_leaves s
  | _ => cases hi

/-- Every instruction but the prefixes, WAIT and the strings runs to its end and keeps `Running`. -/
theorem exec_whole {s : State} {i : Instr} (hp : isPrefix i = false) (hl : isLong i = false) (h : s.Running) :
    Leaves State.Running (exec i s) := by
  cases i with
  | addRm8R8 _ _ | addAlImm8 _ | orRm8R8 _ _ | orAlImm8 _ | adcRm8R8 _ _ | adcAlImm8 _ | sbbRm8R8 _ _ | sbbAlImm8 _
  | andRm8R8 _ _ | andAlImm8 _ | subRm8R8 _ _ | subAlImm8 _ | xorRm8R8 _ _ | xorAlImm8 _ | addRm8Imm8 _ _
  | addRm8Imm8Alt _ _ | orRm8Imm8 _ _ | adcRm8Imm8 _ _ | adcRm8Imm8Alt _ _ | sbbRm8Imm8 _ _ | sbbRm8Imm8Alt _ _
  | andRm8Imm8 _ _ | subRm8Imm8 _ _ | subRm8Imm8Alt _ _ | xorRm8Imm8 _ _ =>
    exact h.binary8 (fun _ _ _ => rfl) _ _
  | addR8Rm8 _ _ | orR8Rm8 _ _ | adcR8Rm8 _ _ | sbbR8Rm8 _ _ | andR8Rm8 _ _ | subR8Rm8 _ _ | xorR8Rm8 _ _ =>
    exact (h.noteRm8 _).binary8 (fun _ _ _ => rfl) _ _
  | cmpRm8R8 _ _ | cmpAlImm8 _ | cmpRm8Imm8 _ _ | cmpRm8Imm8Alt _ _ | testRm8R8 _ _ | testAlImm8 _
  | testRm8Imm8 _ _ => exact h.flags8 (fun _ _ _ => rfl) _ _
  | cmpR8Rm8 _ _ => exact (h.noteRm8 _).flags8 (fun _ _ _ => rfl) _ _
  | notRm8 _ | negRm8 _ | incRm8 _ | decRm8 _ => exact h.unary8 (fun _ _ => rfl) _
  | rolRm8One _ | rorRm8One _ | rclRm8One _ | rcrRm8One _ | shlRm8One _ | shrRm8One _ | sarRm8One _ =>
    exact h.shift8 _ _ _ _ _
  | rolRm8Cl _ | rorRm8Cl _ | rclRm8Cl _ | rcrRm8Cl _ | shlRm8Cl _ | shrRm8Cl _ | sarRm8Cl _ => exact h.shiftCl8 _ _ _
  | mulRm8 _ => exact (h.noteRm8 _).mul8 _
  | imulRm8 _ => exact (h.noteRm8 _).imul8 _
  | divRm8 _ => exact (h.noteRm8 _).div8 _
  | idivRm8 _ => exact (h.noteRm8 _).idiv8 _
  | addRm16R16 _ _ | addAxImm16 _ | orRm16R16 _ _ | orAxImm16 _ | adcRm16R16 _ _ | adcAxImm16 _ | sbbRm16R16 _ _
  | sbbAxImm16 _ | andRm16R16 _ _ | andAxImm16 _ | subRm16R16 _ _ | subAxImm16 _ | xorRm16R16 _ _ | xorAxImm16 _
  | addRm16Imm16 _ _ | addRm16SImm8 _ _ | orRm16Imm16 _ _ | adcRm16Imm16 _ _ | adcRm16SImm8 _ _ | sbbRm16Imm16 _ _
  | sbbRm16SImm8 _ _ | andRm16Imm16 _ _ | subRm16Imm16 _ _ | subRm16SImm8 _ _ | xorRm16Imm16 _ _ =>
    exact h.binary16 (fun _ _ _ => rfl) _ _
  | addR16Rm16 _ _ | orR16Rm16 _ _ | adcR16Rm16 _ _ | sbbR16Rm16 _ _ | andR16Rm16 _ _ | subR16Rm16 _ _
  | xorR16Rm16 _ _ => exact (h.noteRm16 _).binary16 (fun _ _ _ => rfl) _ _
  | cmpRm16R16 _ _ | cmpAxImm16 _ | cmpRm16Imm16 _ _ | cmpRm16SImm8 _ _ | testRm16R16 _ _ | testAxImm16 _
  | testRm16Imm16 _ _ => exact h.flags16 (fun _ _ _ => rfl) _ _
  | cmpR16Rm16 _ _ => exact (h.noteRm16 _).flags16 (fun _ _ _ => rfl) _ _
  | incR16 _ | decR16 _ | notRm16 _ | negRm16 _ | incRm16 _ | decRm16 _ => exact h.unary16 (fun _ _ => rfl) _
  | rolRm16One _ | rorRm16One _ | rclRm16One _ | rcrRm16One _ | shlRm16One _ | shrRm16One _ | sarRm16One _ =>
    exact h.shift16 _ _ _ _ _
  | rolRm16Cl _ | rorRm16Cl _ | rclRm16Cl _ | rcrRm16Cl _ | shlRm16Cl _ | shrRm16Cl _ | sarRm16Cl _ =>
    exact h.shiftCl16 _ _ _
  | mulRm16 _ => exact (h.noteRm16 _).mul16 _
  | imulRm16 _ => exact (h.noteRm16 _).imul16 _
  | divRm16 _ => exact (h.noteRm16 _).div16 _
  | idivRm16 _ => exact (h.noteRm16 _).idiv16 _
  | jo _ | jno _ | jb _ | jae _ | je _ | jne _ | jbe _ | ja _ | js _ | jns _ | jp _ | jnp _ | jl _ | jge _ | jle _
  | jg _ | jcxz _ => exact h.jumpIf _ _
  | loopne _ | loope _ | loop _ => exact h.loopIf _ _
  | xchgAxCx | xchgAxDx | xchgAxBx | xchgAxSp | xchgAxBp | xchgAxSi | xchgAxDi => exact (h.setReg16 _ _).setReg16 _ _
  | les _ _ | lds _ _ => exact ((h.noteFar _).setReg16 _ _).setSreg _ _
  | inAxPort _ | inAxDx => exact h.inWord _
  | outPortAx _ | outDxAx => exact h.outWord _
  | inAlPort _ | inAlDx => exact (h.onBus _).setReg8 _ _
  | outPortAl _ | outDxAl => exact h.onBus _
  | movRm8R8 _ _ | movRm8Imm8 _ _ => exact h.put8 _ _
  | movRm16R16 _ _ | movRm16Sreg _ _ | movRm16Imm16 _ _ => exact h.put16 _ _
  | movAddrAl _ => exact h.writeByte _ _ _
  | movAddrAx _ => exact h.writeWord _ _ _
  | movR8Imm8 _ _ => exact h.setReg8 _ _
  | lea _ _ | movR16Imm16 _ _ | cbw | cwd => exact h.setReg16 _ _
  | movR8Rm8 _ _ => exact (h.noteRm8 _).setReg8 _ _
  | movR16Rm16 _ _ => exact (h.noteRm16 _).setReg16 _ _
  | movEsRm16 _ | movSsRm16 _ | movDsRm16 _ => exact (h.noteRm16 _).loadSreg _ _
  | movAlAddr _ | xlat => exact (h.onBus _).setReg8 _ _
  | movAxAddr _ => exact (h.onBus _).setReg16 _ _
  | xchgR8Rm8 _ _ => exact h.underLock fun _ h => ((h.noteRm8 _).put8 _ _).setReg8 _ _
  | xchgR16Rm16 _ _ => exact h.underLock fun _ h => ((h.noteRm16 _).put16 _ _).setReg16 _ _
  | pushR16 _ | pushEs | pushCs | pushSs | pushDs => exact h.push _
  | pushRm16 _ => exact (h.noteRm16 _).push _
  | pushf => exact h.pushFlags
  | popR16 _ => exact h.popped.setReg16 _ _
  | popEs | popSs | popDs => exact h.popped.loadSreg _ _
  | popRm16 _ => exact h.popped.put16 _ _
  | popf => exact h.popped.setFlags _
  | sahf | cmc | clc | stc | cli | cld | std => exact h.setFlags _
  | hlt | sti => exact h.of_same rfl rfl rfl rfl
  | lahf => exact (h.setReg8 _ _).drawn 1
  | daa | das => exact h.packedResult _
  | aaa => exact h.aaa
  | aas => exact h.aas
  | aam | aad => exact h.tensResult _ _
  | jmpNear _ | jmpShort _ => exact h.jumpNear _
  | jmpFar _ _ => exact h.jumpFar _ _
  | jmpRm16 _ => exact (h.noteRm16 _).jumpNear _
  | jmpMem _ => exact (h.noteFar _).jumpFar _ _
  | callNear _ => exact (h.push _).jumpNear _
  | callRm16 _ => exact ((h.noteRm16 _).push _).jumpNear _
  | callFar _ _ => exact ((h.push _).push _).jumpFar _ _
  | callMem _ => exact (((h.noteFar _).push _).push _).jumpFar _ _
  | retNear => exact h.popped.jumpNear _
  | retNearN _ => exact (h.popped.jumpNear _).setReg16 _ _
  | retFar => exact h.popped.popped.jumpFar _ _
  | retFarN _ => exact (h.popped.popped.jumpFar _ _).setReg16 _ _
  | intN _ | int3 => exact h.raise _
  | into => exact h.into
  | iret => exact h.returnFromInterrupt
  | nop => exact h
  | esc _ _ _ => exact h.noteRm16 _
  | overrideEs | overrideCs | overrideSs | overrideDs | lockPrefix | repne | rep => exact absurd hp (by decide)
  | wait | movsb | movsw | cmpsb | cmpsw | stosb | stosw | lodsb | lodsw | scasb | scasw => exact absurd hl (by decide)

/-- What the rest of the step needs of an instruction's answer: it is ready for the boundary, or it meets the invariant
but for the queue; after the prefixes no boundary comes, so no note may be left. -/
theorem exec_next {s t : State} {i : Instr} (h : s.Running) (q : s.Quiet) (e : exec i s = .next t) :
    (t.Running ∨ t.Tidy) ∧ (isPrefix i = true → t.Running ∧ t.Quiet) := by
  by_cases hp : isPrefix i = true
  · obtain ⟨p, rfl⟩ := leaves_iff.1 (exec_prefix hp s) t e
    have h1 : { s with pfx := p }.Running := h.of_same rfl rfl rfl rfl
    exact ⟨.inl h1, fun _ => ⟨h1, q.shadow, q.raised, q.awake⟩⟩
  · refine ⟨?_, fun hp' => absurd hp' hp⟩
    by_cases hl : isLong i = true
    · exact leaves_iff.1 (exec_long hl h q) t e
    · exact .inl (leaves_iff.1 (exec_whole (by simpa using hp) (by simpa using hl) h) t e)

end Sys2Proof.Machine
end

section
/-!
SUPPORT. The invariant from one step to the next: the boundary, the window, and the reset.
-/
namespace Sys2Proof.Machine

/-- The queue is cut to the next code bytes at the end of a step (R92). -/
theorem State.Tidy.trim {s : State} (h : s.Tidy) : s.trim.Inv where
  memory := h.memory
  queue := fun _ hc => (List.mem_filter.1 hc).2
  ahead := h.ahead
  shadow := h.shadow
  raised := h.raised
  halt := h.halt
  progress := h.progress

/-- A fetched instruction runs in the state that `State.begin` gives. -/
theorem fetch_ok {s t : State} {i : Instr} (h : s.fetch = .ok (i, t)) : ∃ n, t = s.begin n := by
  unfold State.fetch at h
  split at h
  · cases h
    exact ⟨_, rfl⟩
  · cases h

/-! ## The boundary -/

/-- An instruction is over: nothing in progress, the prefixes ended, no note for the boundary. -/
structure State.Finished (s : State) : Prop where
  running : s.Running
  shadow : s.shadow = false
  raised : s.raised = false
  pfx : s.pfx = Prefixes.none

theorem State.Finished.tidy {s : State} (h : s.Finished) : s.Tidy where
  memory := h.running.memory
  ahead := h.running.ahead
  shadow := h.shadow
  raised := h.raised
  halt := fun _ => ⟨h.running.idle, h.pfx⟩
  progress := State.progressOk_of_idle h.running.idle

/-- The queue holds next code bytes alone (R92). -/
def State.QueueInWindow (s : State) : Prop := ∀ c ∈ s.queue, s.inWindow c.1 = true

theorem State.QueueInWindow.of_empty {s : State} (h : s.queue = []) : s.QueueInWindow := by
  simp [State.QueueInWindow, h]

/-- What a pulse of NMI, the acknowledge and the interrupt sequences keep, the boundary keeps. -/
theorem boundary_keeps {P : State → Prop} (hpins : ∀ (s : State) p, P s → P { s with pins := p })
    (hack : ∀ s : State, P s → P s.acknowledged) (hint : ∀ (s : State) n, P s → P (s.interrupt n)) {s : State}
    (h : P { s with shadow := false, raised := false }) (tf0 : Bool) : P (s.boundary tf0) := by
  have hnmi : ∀ u : State, P u → P u.takeNmi := fun u hu => hint _ 2 (hpins u _ hu)
  have hseq : ∀ (u : State) (o : Bool), P u → P (u.afterSequence o) := fun u o hu =>
    afterSequence_keeps (fun v _ _ hv => hpins v _ hv) hnmi (fun v hv => hint v 1 hv) hu o
  obtain ⟨_, rfl, e | ⟨o, e⟩ | ⟨n, o, e⟩ | ⟨n, o, e⟩ | ⟨o, e⟩⟩ := boundary_cases s tf0 <;> rw [e]
  · exact h
  · exact hseq _ o h
  · exact hseq _ o (hint _ n h)
  · exact hseq _ o (hint _ n (hack _ h))
  · exact hseq _ o (hnmi _ h)

theorem boundary_finished {s : State} (h : s.Running) (hp : s.pfx = Prefixes.none) (tf0 : Bool) :
    (s.boundary tf0).Finished := by
  refine boundary_keeps (fun u p hu => ?_) (fun u hu => ?_) (fun u n hu => ?_) ?_ tf0
  · exact ⟨hu.running.of_same rfl rfl rfl rfl, hu.shadow, hu.raised, hu.pfx⟩
  · exact ⟨hu.running.onBus _, hu.shadow, hu.raised, hu.pfx⟩
  · exact ⟨hu.running.interrupt n, hu.shadow, hu.raised, hu.pfx⟩
  · exact ⟨h.of_same rfl rfl rfl rfl, rfl, rfl, hp⟩

theorem boundary_queueInWindow {s : State} (h : s.QueueInWindow) (tf0 : Bool) : (s.boundary tf0).QueueInWindow :=
  boundary_keeps (fun _ _ hu => hu) (fun _ hu => hu) (fun u n _ => .of_empty (State.interrupt_queue u n)) h tf0

/-! ## The step -/

/-- What follows an answer keeps the invariant: after one of the prefixes, after an element or a test of
an instruction in progress, and after a whole instruction (R353). -/
theorem settle_inv {s t : State} {i : Instr} {tf0 : Bool} (h : s.Running) (q : s.Quiet)
    (e : settle i tf0 (exec i s) = .next t) : t.Inv := by
  obtain ⟨u, eu, hu⟩ := settle_cases e
  obtain ⟨h1, h2⟩ := exec_next h q eu
  obtain ⟨hp, rfl⟩ | ⟨_, hi, hw⟩ | ⟨_, hi, rfl⟩ := hu
  · obtain ⟨hr, hq⟩ := h2 hp
    exact (hr.tidy hq).trim
  · have ht : u.Tidy := h1.resolve_left fun hr => hi hr.idle
    obtain rfl | ⟨_, rfl⟩ := window_cases hw
    · exact ht.trim
    · have hr : { u with ip := u.start, inProgress := none }.Running := ⟨ht.memory, ht.ahead, rfl⟩
      exact (boundary_finished hr.endPrefixes rfl tf0).tidy.trim
  · have hr : u.Running := h1.elim id fun ht => ⟨ht.memory, ht.ahead, hi⟩
    exact (boundary_finished hr.endPrefixes rfl tf0).tidy.trim

/-- A run keeps the invariant: the halt state, an instruction in progress, and a fetched one. -/
theorem run_inv {s t : State} (h : s.Inv) (e : run s = .next t) : t.Inv := by
  obtain ⟨hh, e1⟩ | ⟨hh, i, hi, e1⟩ | ⟨_, _, _, e1⟩ | ⟨_, _, _, _, _, e1⟩ | ⟨_, _, _, _, _, _, e1⟩ |
    ⟨hh, hi, i, u, hf, _, e1⟩ := run_cases s <;> rw [e1] at e
  · cases e
    obtain ⟨hi, hp⟩ := h.halt hh
    have ht := (boundary_finished ⟨h.memory, h.ahead, hi⟩ hp false).tidy
    exact ⟨ht.memory, boundary_queueInWindow h.queue false, ht.ahead, ht.shadow, ht.raised, ht.halt, ht.progress⟩
  · exact settle_inv (s := { s with inProgress := none }) ⟨h.memory, h.ahead, rfl⟩ ⟨h.shadow, h.raised, hh⟩ e
  · cases e
  · cases e
  · cases e
  · obtain ⟨n, rfl⟩ := fetch_ok hf
    have hr : (s.begin n).Running := ⟨h.memory, begin_ahead_le h.ahead n, hi⟩
    have hq : (s.begin n).Quiet := ⟨h.shadow, h.raised, hh⟩
    exact settle_inv hr hq e

/-- A reset leaves an empty queue, no halt and nothing in progress; memory stays (R55, R400). -/
theorem resetEvent_inv {s : State} (h : s.mem.wf = true) : s.resetEvent.Inv where
  memory := h
  queue := by simp [State.resetEvent, State.reset]
  ahead := Nat.zero_le _
  shadow := rfl
  raised := rfl
  halt := fun e => by cases e
  progress := trivial

/-- A step keeps the invariant: it is a reset, a reset inside a run, or a run. -/
theorem step_inv {s t : State} (h : s.Inv) (e : step s = .next t) : t.Inv := by
  obtain ⟨_, e1⟩ | ⟨_, _, e1⟩ | ⟨_, _, e1⟩ := step_cases s <;> rw [e1] at e
  · cases e
    exact resetEvent_inv h.memory
  · obtain ⟨u, _, rfl⟩ := abandon_next e
    exact resetEvent_inv (redo_foldl_wf s h.memory _)
  · exact run_inv h (complete_next e).1

end Sys2Proof.Machine
end

section
/-!
SUPPORT. A step from a ready state with an empty queue: the bytes it fetches, and what it answers.
-/
namespace Sys2Proof.Machine

/-- With nothing overwritten the bytes fetched are those in memory (R50, R92). -/
theorem fetchBytes_of_empty {s : State} (h : s.queue = []) : s.fetchBytes = Spec.codeBytes s := by
  have hb : ∀ k, s.fetchByte k = s.memoryByte (s.codeAddr k) := fun k => by
    simp only [State.fetchByte, h, fetchByteFrom]
  exact List.map_congr_left fun k _ => hb k

theorem codePlaces_length (s : State) : s.codePlaces.length = s.fetchBytes.length := by
  simp [State.fetchBytes]

/-- With an empty queue a fetch uses up one free value: how far the bus interface runs ahead (R50). -/
theorem begin_of_empty {s : State} (h : s.queue = []) (n : Nat) : s.begin n =
    { s with
      ip := s.ip + BitVec.ofNat 16 n
      start := if s.pfx = Prefixes.none then s.ip else s.start
      ahead := (s.begin n).ahead
      fetches := (s.fetchCycles (s.newPlaces n)).reverse ++ s.fetches
      draws := s.draws + 1 } := by
  simp [State.begin, h]

theorem fetch_of_decode {s : State} {i : Instr} {rest : List Byte} (h : decode s.fetchBytes = .ok (i, rest)) :
    s.fetch = .ok (i, s.begin (s.fetchBytes.length - rest.length)) := by
  rw [← codePlaces_length]
  unfold State.fetch
  rw [h]

theorem step_of_ready {s : State} (h : s.ready) : step s = s.complete (run s) := by
  obtain ⟨hc, hi, _, _⟩ := h
  simp [step, hc, hi]

theorem run_of_fetch {s t : State} {i : Instr} (h : s.ready) (hf : s.fetch = .ok (i, t))
    (hm : s.misplacedRepeat i = false) : run s = settle i s.flags.tf (exec i t) := by
  obtain ⟨_, _, hh, hi⟩ := h
  simp [run, hh, hi, hf, hm]

/-- A step runs what it fetched, and then what follows the instruction (R353). -/
theorem step_of_fetch {s t : State} {i : Instr} (h : s.ready) (hf : s.fetch = .ok (i, t))
    (hm : s.misplacedRepeat i = false) : step s = s.complete (settle i s.flags.tf (exec i t)) := by
  rw [step_of_ready h, run_of_fetch h hf hm]

theorem settle_prefix {i : Instr} (h : isPrefix i = true) (tf0 : Bool) (t : State) :
    settle i tf0 (.next t) = .next t.trim := by
  simp [settle, h]

theorem settle_whole {i : Instr} {t : State} (h : isPrefix i = false) (ht : t.inProgress = none) (tf0 : Bool) :
    settle i tf0 (.next t) = .next (t.endPrefixes.boundary tf0).trim := by
  simp [settle, h, ht]

theorem settle_inProgress {i : Instr} {t : State} (h : isPrefix i = false) (ht : t.inProgress ≠ none) (tf0 : Bool) :
    settle i tf0 (.next t) = t.window tf0 := by
  simp [settle, h, Option.isSome_iff_ne_none.2 ht]

end Sys2Proof.Machine
end

section
/-!
The statements about the state, settled: reset, the step around an instruction, and the invariant.
-/
namespace Sys2Proof.Proofs
open Sys2Proof.Machine Sys2Proof.Spec

/-- Settles O60: the cases of the step, each from what the operations keep. -/
theorem invStep : Obligations.InvStep :=
  fun _ _ h e => step_inv h e

/-- Settles O59, field by field: the queue is empty, nothing is in progress, and no note is left. -/
theorem invReset : Obligations.InvReset where
  memory := Memory.wf_reset
  queue := by simp [State.reset]
  ahead := Nat.zero_le _
  shadow := rfl
  raised := rfl
  halt := fun e => by cases e
  progress := trivial

/-- Settles O57: each item of the table of R55 is a field of `State.reset`. -/
theorem resetState : Obligations.ResetState :=
  ⟨rfl, rfl, rfl, rfl, rfl, rfl, rfl, rfl, rfl, rfl, rfl, rfl, rfl⟩

/-- Settles O5: the step is `settle` of the fetched instruction, one equation for each thing that can follow it. -/
theorem stepRunsDecoded : Obligations.StepRunsDecoded := by
  intro s i rest hs hq hd hm
  have hb := fetchBytes_of_empty hq
  have step_eq := step_of_fetch hs (fetch_of_decode (hb ▸ hd)) hm
  rw [hb] at step_eq
  refine ⟨_, _, _, begin_of_empty hq _, ?_, ?_, ?_, ?_, complete_of_present⟩
  · intro t e hp
    rw [step_eq, e, settle_prefix hp]
  · intro t e hp ht
    rw [step_eq, e, settle_whole hp ht]
    rfl
  · intro t e hp ht
    rw [step_eq, e, settle_inProgress hp ht]
  · intro r e
    rw [step_eq, e]
    rfl

end Sys2Proof.Proofs
end

section
/-!
SUPPORT. The predicates of the statements over the operations of the model: the LOCK output and the bus cycles of a word, and
the frame of each operation, composed along an instruction.
-/
namespace Sys2Proof.Spec
open Sys2Proof.Machine

/-! ## Numbers -/

theorem toNat_lowByte (v : Word) : (lowByte v).toNat = v.toNat % 256 := BitVec.toNat_setWidth 8 v

theorem toNat_highByte (v : Word) : (highByte v).toNat = v.toNat / 256 := by
  rw [highByte, BitVec.extractLsb'_toNat, Nat.shiftRight_eq_div_pow]
  omega

/-- A sign-extended byte added to an offset is its signed value added modulo 2^16 (R70). -/
theorem toNat_add_sext16 (x : Word) (d : Byte) : ((x + sext16 d).toNat : Int) = (x.toNat + d.toInt) % 2 ^ 16 := by
  have hd : (sext16 d).toInt = d.toInt := BitVec.toInt_signExtend_of_le (by decide)
  rw [← hd, BitVec.toInt_eq_toNat_cond, BitVec.toNat_add]
  split <;> omega

/-- An offset is odd where its bit 0 is set. -/
theorem getLsbD_zero_iff {w : Nat} (x : BitVec w) : x.getLsbD 0 = true ↔ x.toNat % 2 = 1 := by
  simp [BitVec.getLsbD]

/-! ## Bus cycles -/

/-- The LOCK output of the model is that of the statements (R89, R381, D38). -/
theorem lockOutput_eq_lockOn (s : State) : s.lockOutput = lockOn s := by
  unfold State.lockOutput State.betweenElements lockOn lockable
  cases s.pfx.rep <;> cases s.inProgress <;> cases s.params.configuration <;> simp

/-- The bus cycles of a word: one at an even address, two at an odd one (R72, R75, R417). -/
theorem wordCycles_eq (s : State) (d : Direction) (seg off v : Word) :
    s.wordCycles d seg off v = wordCycles (lockOn s) d seg off v := by
  unfold State.wordCycles wordCycles State.byteCycles
  rw [lockOutput_eq_lockOn]
  by_cases h : off.toNat % 2 = 0
  · rw [if_neg (by rw [getLsbD_zero_iff]; omega), if_pos h]
  · rw [if_pos (by rw [getLsbD_zero_iff]; omega), if_neg h]
    rfl

/-! ## Frames -/

theorem Frame.lockOn_eq {cs : List BusCycle} {s t : State} (h : Frame cs s t) : lockOn t = lockOn s := by
  obtain ⟨-, ⟨-, -, -, hparams, hpfx, hprogress, -⟩, -⟩ := h
  simp only [lockOn, lockable, hparams, hpfx, hprogress]

theorem Frame.ss_eq {cs : List BusCycle} {s t : State} (h : Frame cs s t) : t.ss = s.ss := by
  obtain ⟨⟨-, -, hss, -⟩, -⟩ := h
  exact hss

/-- Two operations in a row make the bus cycles of both, the later ones in front. -/
theorem Frame.trans {cs ds : List BusCycle} {s t u : State} (h : Frame cs s t) (g : Frame ds t u) :
    Frame (ds ++ cs) s u := by
  obtain ⟨⟨hes, hcs, hss, hds⟩, ⟨h1, h2, h3, h4, h5, h6, h7, h8, h9⟩, hip, hshadow, hbus⟩ := h
  obtain ⟨⟨ges, gcs, gss, gds⟩, ⟨g1, g2, g3, g4, g5, g6, g7, g8, g9⟩, gip, gshadow, gbus⟩ := g
  exact ⟨⟨ges.trans hes, gcs.trans hcs, gss.trans hss, gds.trans hds⟩,
    ⟨g1.trans h1, g2.trans h2, g3.trans h3, g4.trans h4, g5.trans h5, g6.trans h6, g7.trans h7, g8.trans h8, g9.trans h9⟩,
    gip.trans hip, gshadow.trans hshadow, by rw [gbus, hbus, List.append_assoc]⟩

theorem frame_setReg16 (s : State) (r : Reg16) (v : Word) : Frame [] s (s.setReg16 r v) := by
  simp [Frame, Segs, Inner]

theorem frame_writeWord (s : State) (seg off v : Word) :
    Frame (wordCycles (lockOn s) .write seg off v) s (s.writeWord seg off v) := by
  simp [Frame, Segs, Inner, wordCycles_eq]

theorem frame_noteReadWord (s : State) (seg off : Word) :
    Frame (wordCycles (lockOn s) .read seg off (s.readWord seg off)) s (s.noteReadWord seg off) := by
  simp [Frame, Segs, Inner, wordCycles_eq]

theorem frame_push (s : State) (v : Word) : Frame (pushCycles s v) s (s.push v) :=
  List.append_nil (pushCycles s v) ▸
    (frame_setReg16 s .sp s.pushOffset).trans (frame_writeWord (s.setReg16 .sp s.pushOffset) s.ss s.pushOffset v)

theorem frame_popped (s : State) : Frame (topCycles s) s s.popped :=
  (frame_noteReadWord s s.ss s.regs.sp).trans (frame_setReg16 _ _ _)

/-! ## A word stored -/

/-- What a word store leaves in memory: its two bytes where there is plain memory (R60, R76). -/
theorem storedWord_writeWord {s : State} (h : s.mem.wf = true) (seg off v : Word) :
    StoredWord (s.writeWord seg off v) seg off v :=
  ⟨fun hm => memoryByte_writeWord_low h seg off v hm, fun hm => memoryByte_writeWord_high h seg off v hm⟩

/-- A byte store changes at most the byte at its address, and that one only in plain memory (R76). -/
theorem memoryByte_writePhys_uncovered (s : State) {a b : PhysAddr} (v : Byte) (h : ¬ (s.isMemory b = true ∧ b = a)) :
    (s.writePhys a v).memoryByte b = s.memoryByte b := by
  by_cases hb : b = a
  · subst hb
    have hm : s.isMemory b = false := by simpa using h
    exact congrArg (Memory.read · b.toNat) (writePhys_device hm v)
  · exact memoryByte_writePhys_other s v hb

/-- A word store changes the bytes of memory that the word covers, no other. -/
theorem memoryByte_writeWord_uncovered (s : State) (seg off v : Word) {a : PhysAddr}
    (h : ¬ covers16 s (Loc16.mem seg off) a) : (s.writeWord seg off v).memoryByte a = s.memoryByte a := by
  have hlow : ¬ (s.isMemory a = true ∧ a = physAddr seg off) := fun e => h ⟨e.1, .inl e.2⟩
  have hhigh : ¬ (s.isMemory a = true ∧ a = highAddr seg off) := fun e => h ⟨e.1, .inr e.2⟩
  exact (memoryByte_writePhys_uncovered (s.writePhys (physAddr seg off) (lowByte v)) _ hhigh).trans
    (memoryByte_writePhys_uncovered s _ hlow)

/-- A push stores its word below the top of the stack and changes SP, nothing else (R160). -/
theorem pushed_push {s : State} (h : s.mem.wf = true) (v : Word) : Pushed s (s.push v) v where
  sp := rfl
  regs := fun _ hr => Regs.get16_set16_other _ _ hr
  word := storedWord_writeWord (s := s.setReg16 .sp s.pushOffset) h s.ss s.pushOffset v
  memory := fun _ ha => memoryByte_writeWord_uncovered (s.setReg16 .sp s.pushOffset) s.ss s.pushOffset v ha
  flags := rfl

end Sys2Proof.Spec
end

section
/-!
SUPPORT. The code bytes: what a fetched byte can be, what a store leaves in the queue, which instructions empty it, and the
bus cycles that fetch an instruction.
-/
namespace Sys2Proof.Machine

/-! ## The queue -/

/-- A fetched byte is the one in memory, or one that was fetched ahead and overwritten since (R92). -/
theorem fetchByteFrom_cases (a : Nat) (current : Byte) (fetched : Bool) (n : Nat) (q : List Host.Cell) :
    fetchByteFrom a current fetched n q = current ∨
      (fetched = true ∧ ∃ c ∈ q, c.1 = a ∧ c.2 = fetchByteFrom a current fetched n q) := by
  induction q generalizing n with
  | nil => exact .inl rfl
  | cons c rest ih =>
    obtain ⟨k, v⟩ := c
    unfold fetchByteFrom
    split
    · next h =>
      obtain ⟨hk, hf, _⟩ := h
      exact .inr ⟨hf, (k, v), List.mem_cons_self, hk, rfl⟩
    · exact (ih (n + 1)).imp_right fun ⟨hf, c, hc, h⟩ => ⟨hf, c, List.mem_cons_of_mem _ hc, h⟩

/-- The window of R92: the next QUEUE_LEN code bytes. -/
theorem inWindow_iff (s : State) (a : PhysAddr) :
    s.inWindow a.toNat = true ↔ ∃ k < s.params.queueLen, a = s.codeAddr k := by
  simp only [State.inWindow, State.codeAddr, List.any_eq_true, List.mem_range, beq_iff_eq, ← BitVec.toNat_inj]
  exact exists_congr fun k => and_congr_right fun _ => eq_comm

/-- A store outside the window leaves the queue as it is (R92). -/
theorem writePhys_queue_outside {s : State} {a : PhysAddr} (h : ∀ k < s.params.queueLen, a ≠ s.codeAddr k) (v : Byte) :
    (s.writePhys a v).queue = s.queue := by
  have hw : s.inWindow a.toNat ≠ true := fun e => by
    obtain ⟨k, hk, ha⟩ := (inWindow_iff s a).1 e
    exact h k hk ha
  simp [hw]

/-- A store into the window keeps the byte that was overwritten (R92). -/
theorem writePhys_queue_inside {s : State} {k : Nat} (hk : k < s.params.queueLen)
    (hm : s.isMemory (s.codeAddr k) = true) (v : Byte) :
    (s.writePhys (s.codeAddr k) v).queue = s.queue ++ [((s.codeAddr k).toNat, s.memoryByte (s.codeAddr k))] := by
  have hw := (inWindow_iff s (s.codeAddr k)).2 ⟨k, hk, rfl⟩
  simp [hm, hw]

/-! ## Transfers of control -/

/-- The queue is empty: no code byte fetched ahead, none overwritten (R50, R250). -/
def State.Emptied (s : State) : Prop := s.queue = [] ∧ s.ahead = 0

/-- The unconditional transfers of control: jumps, calls, returns, INT n, INT 3 and IRET (R250). -/
def isTransfer : Instr → Bool
  | .jmpShort _ | .jmpNear _ | .jmpRm16 _ | .jmpFar _ _ | .jmpMem _ | .callNear _ | .callRm16 _ | .callFar _ _
  | .callMem _ | .retNear | .retNearN _ | .retFar | .retFarN _ | .int3 | .intN _ | .iret => true
  | _ => false

theorem raise_emptied (s : State) (t : Byte) : (s.raise t).Emptied := ⟨State.raise_queue s t, State.raise_ahead s t⟩

/-- An unconditional transfer of control empties the queue: each ends in a jump, or in the jump through a pointer (R250). -/
theorem exec_transfer {i : Instr} (h : isTransfer i = true) (s : State) : Leaves State.Emptied (exec i s) := by
  cases i with
  | jmpShort _ | jmpNear _ | jmpRm16 _ | jmpFar _ _ | jmpMem _ | callNear _ | callRm16 _ | callFar _ _ | callMem _
  | retNear | retNearN _ | retFar | retFarN _ | iret => exact ⟨rfl, rfl⟩
  | int3 | intN _ => exact raise_emptied s _
  | _ => cases h

/-! ## The places of the code bytes fetched -/

/-- A place of a stretch of numbers is taken if no place from its start up to it fails the test. -/
theorem mem_takeWhile_range' {p : Nat → Bool} {a m k : Nat} (ha : a ≤ k) (hk : k < a + m)
    (h : ∀ j, a ≤ j → j ≤ k → p j = true) : k ∈ (List.range' a m).takeWhile p := by
  induction m generalizing a with
  | zero => omega
  | succ m ih =>
    rw [List.range'_succ, List.takeWhile_cons_of_pos (h a le_rfl ha), List.mem_cons]
    by_cases hak : k = a
    · exact .inl hak
    · exact .inr (ih (by omega) (by omega) fun j hj => h j (by omega))

/-- A fetched instruction runs in the state that `State.begin` gives, and it is no longer than the code bytes there are. -/
theorem fetch_ok_length {s t : State} {i : Instr} (h : s.fetch = .ok (i, t)) :
    ∃ n ≤ s.codePlaces.length, t = s.begin n := by
  unfold State.fetch at h
  split at h
  · cases h
    exact ⟨_, Nat.sub_le _ _, rfl⟩
  · cases h

/-- The code bytes that the fetch looks at lie in plain memory (R76). -/
theorem isMemory_of_codePlaces {s : State} {k : Nat} (h : k < s.codePlaces.length) :
    s.isMemory (s.codeAddr k) = true := by
  have hp : s.codePlaces <+: List.range 6 := List.takeWhile_prefix _
  have hk : s.codePlaces[k] = k := by rw [hp.getElem h, List.getElem_range]
  have hmem : k ∈ s.codePlaces := List.mem_iff_getElem.2 ⟨k, h, hk⟩
  exact List.mem_takeWhile_imp (p := fun k => s.isMemory (s.codeAddr k)) hmem

theorem codePlaces_length_le (s : State) : s.codePlaces.length ≤ 6 := by
  have hp : s.codePlaces <+: List.range 6 := List.takeWhile_prefix _
  simpa using hp.length_le

theorem newPlaces_eq (s : State) (n : Nat) : s.newPlaces n =
    (List.range' s.ahead (s.fetchedTo n - s.ahead)).takeWhile fun k => s.isMemory (s.codeAddr k) := by
  rw [State.newPlaces, List.range_eq_range', List.drop_range', Nat.zero_add, Nat.mul_one]

/-- The places fetched follow each other. -/
theorem newPlaces_isChain (s : State) (n : Nat) : (s.newPlaces n).IsChain fun k j => j = k + 1 := by
  obtain ⟨rest, hrest⟩ : s.newPlaces n <+: List.range' s.ahead (s.fetchedTo n - s.ahead) :=
    newPlaces_eq s n ▸ List.takeWhile_prefix _
  exact (hrest ▸ List.isChain_range' _ _ _ : (s.newPlaces n ++ rest).IsChain _).left_of_append

/-- The bytes fetched were not in the queue, and lie in plain memory (R50, R76). -/
theorem of_mem_newPlaces {s : State} {n k : Nat} (h : k ∈ s.newPlaces n) :
    s.ahead ≤ k ∧ s.isMemory (s.codeAddr k) = true := by
  rw [newPlaces_eq] at h
  have hrange : k ∈ List.range' s.ahead (s.fetchedTo n - s.ahead) := (List.takeWhile_sublist _).subset h
  exact ⟨(List.mem_range'_1.1 hrange).1, List.mem_takeWhile_imp (p := fun k => s.isMemory (s.codeAddr k)) h⟩

/-- Every byte of the instruction that the queue does not hold is fetched (R50). -/
theorem mem_newPlaces {s : State} {n k : Nat} (hn : n ≤ s.codePlaces.length) (ha : s.ahead ≤ k) (hk : k < n) :
    k ∈ s.newPlaces n := by
  have hto : n ≤ s.fetchedTo n := by unfold State.fetchedTo; omega
  rw [newPlaces_eq]
  exact mem_takeWhile_range' ha (by omega) fun j _ hj => isMemory_of_codePlaces (by omega)

/-! ## The fetch cycles -/

theorem codeAddr_toNat (s : State) (k : Nat) :
    (s.codeAddr k).toNat = (s.cs.toNat * 16 + (s.ip.toNat + k) % 2 ^ 16) % 2 ^ 20 := by
  rw [State.codeAddr, physAddr_toNat, BitVec.toNat_add, BitVec.toNat_ofNat, Nat.add_mod_mod]

/-- The other byte of a word at an even address is the next code byte: the word crosses no end of the segment or of memory. -/
theorem codeAddr_succ {s : State} {k : Nat} (h : (s.codeAddr k).toNat % 2 = 0) :
    s.codeAddr (k + 1) = s.codeAddr k + 1 := by
  apply BitVec.eq_of_toNat_eq
  rw [physAddr_succ_toNat]
  rw [codeAddr_toNat] at h ⊢
  rw [codeAddr_toNat]
  omega

end Sys2Proof.Machine

namespace Sys2Proof.Spec
open Sys2Proof.Machine

theorem fetched_fetchByteCycle (s : State) (k : Nat) : fetched (s.fetchByteCycle k) = [s.codeAddr k] := rfl

theorem fetched_fetchWordCycle (s : State) (k j : Nat) :
    fetched (s.fetchWordCycle k j) = [s.codeAddr k, s.codeAddr k + 1] := rfl

/-- A byte fetched in a cycle of its own (R75, R382). -/
theorem fetches_fetchByteCycle {s : State} {k : Nat} (ha : s.ahead ≤ k) (hm : s.isMemory (s.codeAddr k) = true) :
    Fetches s (s.fetchByteCycle k) where
  read := rfl
  lock := lockOutput_eq_lockOn s
  code := by
    rw [fetched_fetchByteCycle]
    exact ⟨List.cons_ne_nil _ _, List.forall_mem_singleton.2 ⟨hm, k, ha, rfl⟩⟩
  byte := by
    rintro _ _ ⟨⟩ ⟨⟩
    rfl
  word := by rintro _ _ _ ⟨⟩

/-- Two bytes of a word at an even address fetched in one cycle (R75, R382). -/
theorem fetches_fetchWordCycle {s : State} {k : Nat} (ha : s.ahead ≤ k) (he : (s.codeAddr k).toNat % 2 = 0)
    (hm : s.isMemory (s.codeAddr k) = true) (hm' : s.isMemory (s.codeAddr (k + 1)) = true) :
    Fetches s (s.fetchWordCycle k (k + 1)) where
  read := rfl
  lock := lockOutput_eq_lockOn s
  code := by
    rw [fetched_fetchWordCycle, ← codeAddr_succ he]
    exact ⟨List.cons_ne_nil _ _,
      List.forall_mem_cons.2 ⟨⟨hm, k, ha, rfl⟩, List.forall_mem_singleton.2 ⟨hm', k + 1, by omega, rfl⟩⟩⟩
  byte := by rintro _ _ _ ⟨⟩
  word := by
    rintro _ _ ⟨⟩ ⟨⟩
    rw [← codeAddr_succ he]
    exact ⟨he, lowByte_wordOf _ _, highByte_wordOf _ _⟩

/-- The cycles that fetch places in a row, none in the queue and all in plain memory, are fetch cycles of these bytes, and
leave none of them out: the recursion that pairs the bytes of an aligned word. -/
theorem fetchCycles_spec {s : State} {ks : List Nat} (hc : ks.IsChain fun k j => j = k + 1)
    (hks : ∀ k ∈ ks, s.ahead ≤ k ∧ s.isMemory (s.codeAddr k) = true) :
    (∀ c ∈ s.fetchCycles ks, Fetches s c) ∧ ∀ k ∈ ks, ∃ c ∈ s.fetchCycles ks, s.codeAddr k ∈ fetched c := by
  induction ks using State.fetchCycles.induct s with
  | case1 => simp [State.fetchCycles]
  | case2 k =>
    obtain ⟨ha, hm⟩ := hks k List.mem_cons_self
    simp only [State.fetchCycles, List.mem_singleton, forall_eq, exists_eq_left]
    exact ⟨fetches_fetchByteCycle ha hm, List.mem_cons_self⟩
  | case3 k j rest hodd ih =>
    obtain ⟨⟨ha, hm⟩, hrest⟩ := List.forall_mem_cons.1 hks
    obtain ⟨hall, hcover⟩ := ih hc.tail hrest
    simp only [State.fetchCycles, if_pos hodd, List.forall_mem_cons (a := k), List.forall_mem_cons (a := s.fetchByteCycle k),
      List.exists_mem_cons_iff]
    exact ⟨⟨fetches_fetchByteCycle ha hm, hall⟩, .inl List.mem_cons_self, fun i hi => .inr (hcover i hi)⟩
  | case4 k j rest heven ih =>
    obtain rfl : j = k + 1 := (List.isChain_cons_cons.1 hc).1
    obtain ⟨⟨ha, hm⟩, ⟨_, hm'⟩, hrest⟩ := (List.forall_mem_cons.1 hks).imp_right List.forall_mem_cons.1
    have he : (s.codeAddr k).toNat % 2 = 0 := by rw [getLsbD_zero_iff] at heven; omega
    obtain ⟨hall, hcover⟩ := ih hc.tail.tail hrest
    simp only [State.fetchCycles, if_neg heven, List.forall_mem_cons, List.exists_mem_cons_iff]
    rw [fetched_fetchWordCycle, codeAddr_succ he]
    exact ⟨⟨fetches_fetchWordCycle ha he hm hm', hall⟩, .inl List.mem_cons_self,
      .inl (List.mem_cons_of_mem _ List.mem_cons_self), fun i hi => .inr (hcover i hi)⟩

end Sys2Proof.Spec
end

section
/-!
The statements about memory, settled: the effective address, the word in memory, the stack round trip, and the
fetch of an instruction.
-/
namespace Sys2Proof.Proofs
open Sys2Proof.Machine Sys2Proof.Spec

/-- Settles O24: each form of the postbyte table is one equation of `ea` and of the segment. -/
theorem effectiveAddress : Obligations.EffectiveAddress := by
  intro s
  refine ⟨⟨BitVec.toNat_add _ _, BitVec.toNat_add _ _, BitVec.toNat_add _ _, BitVec.toNat_add _ _, rfl, rfl, rfl, rfl⟩,
    fun _ => rfl, fun b d => toNat_add_sext16 _ d, fun b d => BitVec.toNat_add _ _, ?override, ?default⟩
  case override =>
    intro m r h
    simp [State.memSegment, State.dataSegment, h]
  case default =>
    intro h
    have segment_eq : ∀ m, s.memSegment m = s.sreg (defaultSegment m) := fun m => by
      simp [State.memSegment, State.dataSegment, h]
    refine ⟨fun _ => segment_eq _, fun b d e => ⟨?stack, ?data⟩⟩
    case stack => rintro (rfl | rfl | rfl) <;> exact ⟨segment_eq _, segment_eq _, segment_eq _⟩
    case data => rintro (rfl | rfl | rfl | rfl | rfl) <;> exact ⟨segment_eq _, segment_eq _, segment_eq _⟩

/-- Settles O23: the store and the read of a word, each from its rule. -/
theorem wordStorage : Obligations.WordStorage := by
  intro s hwf seg off v
  have hhigh : off ≠ 0xFFFF → highAddr seg off = physAddr seg (off + 1) := fun h => if_neg h
  refine ⟨physAddr_toNat seg off, ⟨_, rfl, storedWord_writeWord hwf seg off v, ?plain, ?low, ?high, ?others, fun _ => rfl,
    rfl, frame_writeWord s seg off v⟩, ?read, fun _ => readPhys_memory⟩
  case plain => exact fun ⟨hlo, hhi⟩ => readWord_writeWord hwf seg off v hlo hhi
  case low => exact fun hm => by rw [memoryByte_writeWord_low hwf seg off v hm, toNat_lowByte]
  case high =>
    intro hoff hm
    rw [← hhigh hoff] at hm ⊢
    rw [memoryByte_writeWord_high hwf seg off v hm, toNat_highByte]
  case others => exact fun _ => memoryByte_writeWord_uncovered s seg off v
  case read => rw [State.noteReadWord, State.onBus, wordCycles_eq, after]

/-- Settles O32: the word pushed is on top for the pop, and SP - 2 + 2 is SP. -/
theorem pushPop : Obligations.PushPop := by
  intro s hwf r q hr hq ⟨hlo, hhi⟩
  have hpush : exec (.pushR16 r) s = .next (s.push (s.reg16 r)) := by
    simp [exec, execPushR16, State.pushed16, hr]
  generalize ht : s.push (s.reg16 r) = t at hpush
  have pushed : Pushed s t (s.reg16 r) := ht ▸ pushed_push hwf _
  have frame : Frame (pushCycles s (s.reg16 r)) s t := ht ▸ frame_push s _
  have top_eq : t.top = s.reg16 r := ht ▸ top_push hwf _ hlo hhi
  have sp_eq : t.regs.sp + 2 = s.regs.sp := by rw [pushed.sp, BitVec.sub_add_cancel]
  have cycles_eq : topCycles t = wordCycles (lockOn s) .read s.ss (s.regs.sp - 2) (s.reg16 r) := by
    rw [topCycles, frame.lockOn_eq, frame.ss_eq, pushed.sp]
    exact congrArg _ top_eq
  refine ⟨t, _, hpush, rfl, ?copied, ?kept, pushed.flags, pushed.memory, ?cycles⟩
  case copied => exact (Regs.get16_set16_same _ _ _).trans top_eq
  case kept =>
    intro x hx
    refine (Regs.get16_set16_other _ _ hx).trans ?_
    by_cases hsp : x = .sp
    · subst hsp
      exact (Regs.get16_set16_same t.regs .sp _).trans sp_eq
    · exact (Regs.get16_set16_other _ _ hsp).trans (pushed.regs x hsp)
  case cycles =>
    rw [← cycles_eq]
    exact (frame.trans (frame_popped t)).trans (frame_setReg16 _ q _)

/-- Settles O56: the bytes the queue may give, the stores into the window, the transfers that empty it, and the fetch cycles
of the places that `State.begin` takes. -/
theorem codeFetch : Obligations.CodeFetch := by
  intro s
  refine ⟨?bytes, fetchBytes_of_empty, fun a v h => writePhys_queue_outside h v, ?inside, ?transfers, ?cycles⟩
  case bytes =>
    intro k
    simpa [State.fetchByte] using fetchByteFrom_cases (s.codeAddr k).toNat _ (k < s.ahead) _ s.queue
  case inside =>
    rintro k hk v _ rfl hm
    exact writePhys_queue_inside hk hm v
  case transfers =>
    intro i t rel off seg m rm hi e
    have htransfer : isTransfer i = true := List.all_eq_true.1 (by rfl) i hi
    exact leaves_iff.1 (exec_transfer htransfer s) t e
  case cycles =>
    intro i u hf hqueue
    obtain ⟨n, hn, rfl⟩ := fetch_ok_length hf
    obtain ⟨hall, hcover⟩ := fetchCycles_spec (newPlaces_isChain s n) fun k => of_mem_newPlaces
    refine ⟨n, (s.fetchCycles (s.newPlaces n)).reverse, hn.trans (codePlaces_length_le s), rfl, rfl, rfl,
      begin_ahead_le hqueue n, fun c hc => hall c (List.mem_reverse.1 hc), fun k ha hk => ?_⟩
    obtain ⟨c, hc, hk⟩ := hcover k (mem_newPlaces hn ha hk)
    exact ⟨c, List.mem_reverse.2 hc, hk⟩

end Sys2Proof.Proofs
end

section
/-!
SUPPORT. What the decoder reads: the codes and the postbyte, the operand of a postbyte, and, for each format, the bytes it takes
as which instruction.
-/
namespace Sys2Proof

/-! ## Codes and fields (R105, R106, R109) -/

@[simp] theorem Reg16.ofCode_code (r : Reg16) : Reg16.ofCode r.code = r := by cases r <;> rfl

@[simp] theorem Reg16.code_ofCode (c : BitVec 3) : (Reg16.ofCode c).code = c := by decide +revert

@[simp] theorem Reg8.ofCode_code (r : Reg8) : Reg8.ofCode r.code = r := by cases r <;> rfl

@[simp] theorem Reg8.code_ofCode (c : BitVec 3) : (Reg8.ofCode c).code = c := by decide +revert

@[simp] theorem EaBase.ofCode_code (b : EaBase) : EaBase.ofCode b.code = b := by cases b <;> rfl

@[simp] theorem EaBase.code_ofCode (c : BitVec 3) : (EaBase.ofCode c).code = c := by decide +revert

@[simp] theorem modField_postbyte (mode : BitVec 2) (e rm : BitVec 3) : modField (postbyte mode e rm) = mode :=
  (BitVec.extractLsb'_append_eq_of_le (by decide)).trans BitVec.extractLsb'_append_eq_left

@[simp] theorem regField_postbyte (mode : BitVec 2) (e rm : BitVec 3) : regField (postbyte mode e rm) = e :=
  (BitVec.extractLsb'_append_eq_of_le le_rfl).trans BitVec.extractLsb'_append_eq_right

@[simp] theorem rmField_postbyte (mode : BitVec 2) (e rm : BitVec 3) : rmField (postbyte mode e rm) = rm :=
  BitVec.extractLsb'_append_eq_right

/-- A postbyte is its three fields (R105). -/
theorem postbyte_fields (p : Byte) : postbyte (modField p) (regField p) (rmField p) = p := by
  have high : modField p ++ regField p = p.extractLsb' 3 5 := BitVec.extractLsb'_append_extractLsb'_eq_extractLsb' rfl
  have all : p.extractLsb' 3 5 ++ rmField p = p.extractLsb' 0 8 := BitVec.extractLsb'_append_extractLsb'_eq_extractLsb' rfl
  rw [postbyte, high, all, BitVec.extractLsb'_eq_self]

/-! ## The operand of a postbyte (R107, R108, R110) -/

/-- The postbyte and displacement of a place. -/
def Place.bytes (e : BitVec 3) : Place → List Byte
  | .reg c => [postbyte 3 e c]
  | .mem m => m.bytes e

/-- A place that has a postbyte of its own (R110). -/
def Place.wellFormed : Place → Bool
  | .reg _ => true
  | .mem m => m.wellFormed

@[simp] theorem Place.rm8_bytes (e : BitVec 3) (p : Place) : p.rm8.bytes e = p.bytes e := by
  cases p <;> simp [Place.rm8, Rm8.bytes, Place.bytes]

@[simp] theorem Place.rm16_bytes (e : BitVec 3) (p : Place) : p.rm16.bytes e = p.bytes e := by
  cases p <;> simp [Place.rm16, Rm16.bytes, Place.bytes]

@[simp] theorem Place.rm8_wellFormed (p : Place) : p.rm8.wellFormed = p.wellFormed := by cases p <;> rfl

@[simp] theorem Place.rm16_wellFormed (p : Place) : p.rm16.wellFormed = p.wellFormed := by cases p <;> rfl

theorem Rm8.exists_place (m : Rm8) : ∃ p : Place, p.rm8 = m := by
  cases m with
  | reg r => exact ⟨.reg r.code, by simp [Place.rm8]⟩
  | mem m => exact ⟨.mem m, rfl⟩

theorem Rm16.exists_place (m : Rm16) : ∃ p : Place, p.rm16 = m := by
  cases m with
  | reg r => exact ⟨.reg r.code, by simp [Place.rm16]⟩
  | mem m => exact ⟨.mem m, rfl⟩

/-- The base sums that mod = 00 leaves in place: the code of `bp` means the absolute mode (R110). -/
theorem base_wellFormed (b : EaBase) : (Mem.base b).wellFormed = true ↔ b.code ≠ 6 := by
  cases b <;> decide

/-- The bytes of a place are read as that place, with the rest left over (R107 to R112). -/
theorem decodePlace_of_bytes {pl : Place} (h : pl.wellFormed = true) (e : BitVec 3) (rest : List Byte) :
    ∃ p bs, pl.bytes e ++ rest = p :: bs ∧ regField p = e ∧ decodePlace p bs = .ok (pl, rest) := by
  cases pl with
  | reg c => exact ⟨_, _, rfl, by simp, by simp [decodePlace]⟩
  | mem m =>
    cases m with
    | base b =>
      have hb : b.code ≠ 6#3 := (base_wellFormed b).1 h
      exact ⟨_, _, rfl, by simp, by simp [decodePlace, hb]⟩
    | direct d | disp8 b d | disp16 b d => exact ⟨_, _, rfl, by simp, by simp [decodePlace, wordBytes]⟩

/-- A place is read from its own bytes, by the cases of `mod` (R107, R108, R110, R112). -/
theorem bytes_of_decodePlace {p : Byte} {bs rest : List Byte} {pl : Place} (h : decodePlace p bs = .ok (pl, rest)) :
    pl.wellFormed = true ∧ p :: bs = pl.bytes (regField p) ++ rest := by
  obtain ⟨mode, e, rm, rfl⟩ : ∃ mode e rm, p = postbyte mode e rm := ⟨_, _, _, (postbyte_fields p).symm⟩
  have hmode : ∀ mode : BitVec 2, mode = 3 ∨ mode = 0 ∨ mode = 1 ∨ mode = 2 := by decide
  simp only [decodePlace, modField_postbyte, rmField_postbyte, regField_postbyte] at h ⊢
  obtain rfl | rfl | rfl | rfl := hmode mode
  · cases h
    exact ⟨rfl, rfl⟩
  · by_cases hrm : rm = 6
    · subst hrm
      match bs, h with
      | lo :: hi :: more, h =>
        cases h
        exact ⟨rfl, by simp [Place.bytes, Mem.bytes, wordBytes]⟩
    · rw [if_neg (by decide), if_pos rfl, if_neg hrm] at h
      cases h
      exact ⟨(base_wellFormed _).2 (by rwa [EaBase.code_ofCode]), by simp [Place.bytes, Mem.bytes]⟩
  · match bs, h with
    | d :: more, h =>
      cases h
      exact ⟨rfl, by simp [Place.bytes, Mem.bytes]⟩
  · match bs, h with
    | lo :: hi :: more, h =>
      cases h
      exact ⟨rfl, by simp [Place.bytes, Mem.bytes, wordBytes]⟩

/-- Two more bytes are enough to read any place, and no more of them are taken (R112). -/
theorem decodePlace_total (p : Byte) {bs : List Byte} (h : 2 ≤ bs.length) :
    ∃ pl rest, decodePlace p bs = .ok (pl, rest) ∧ bs.length ≤ rest.length + 2 ∧
      ((∃ c, pl = .reg c) ↔ modField p = 3) := by
  match bs, h with
  | lo :: hi :: more, h =>
    unfold decodePlace
    by_cases h3 : modField p = 3
    · exact ⟨_, _, if_pos h3, by simp, by simp [h3]⟩
    · rw [if_neg h3]
      split
      · split
        · exact ⟨_, _, rfl, by simp, iff_of_false nofun h3⟩
        · exact ⟨_, _, rfl, by simp, iff_of_false nofun h3⟩
      · split
        · exact ⟨_, _, rfl, by simp, iff_of_false nofun h3⟩
        · exact ⟨_, _, rfl, by simp, iff_of_false nofun h3⟩

/-! ## What the formats read (R111, R113) -/

/-- A postbyte and its displacement are read first, then what the tail of its extension takes. -/
theorem decode_postbyte {t : BitVec 3 → Tail} {e : BitVec 3} {pl : Place} (h : pl.wellFormed = true) (bs : List Byte) :
    (Format.postbyte t).decode (pl.bytes e ++ bs) = (t e).decode pl bs := by
  obtain ⟨p, more, hp, rfl, hd⟩ := decodePlace_of_bytes h e bs
  rw [hp]
  simp only [Format.decode, hd]

/-- After the first byte, the format reads the bytes as the instruction. -/
inductive Format.Reads : Format → Instr → List Byte → Prop
  | plain {i} : Reads (.plain i) i []
  | byteArg {g v} : Reads (.byteArg g) (g v) [v]
  | wordArg {g v} : Reads (.wordArg g) (g v) (wordBytes v)
  | farArg {g off seg} : Reads (.farArg g) (g off seg) (wordBytes off ++ wordBytes seg)
  | adjust {i} : Reads (.adjust i) i [0x0A]
  | rm8 {t e f m} (ht : t e = .rm8 f) (h : m.wellFormed = true) : Reads (.postbyte t) (f m) (m.bytes e)
  | rm16 {t e f m} (ht : t e = .rm16 f) (h : m.wellFormed = true) : Reads (.postbyte t) (f m) (m.bytes e)
  | rm8Imm8 {t e f m v} (ht : t e = .rm8Imm8 f) (h : m.wellFormed = true) :
      Reads (.postbyte t) (f m v) (m.bytes e ++ [v])
  | rm16Imm16 {t e f m v} (ht : t e = .rm16Imm16 f) (h : m.wellFormed = true) :
      Reads (.postbyte t) (f m v) (m.bytes e ++ wordBytes v)
  | rm16Imm8 {t e f m v} (ht : t e = .rm16Imm8 f) (h : m.wellFormed = true) :
      Reads (.postbyte t) (f m v) (m.bytes e ++ [v])
  | mem {t e f m} (ht : t e = .mem f) (h : m.wellFormed = true) : Reads (.postbyte t) (f m) (m.bytes e)

/-- The decoder reads what the format says, whatever follows. -/
theorem Format.Reads.decode_append {f : Format} {i : Instr} {cs : List Byte} (h : f.Reads i cs) (rest : List Byte) :
    f.decode (cs ++ rest) = .ok (i, rest) := by
  cases h with
  | plain | byteArg | adjust => rfl
  | wordArg | farArg => simp [Format.decode, wordBytes]
  | @rm8 t e f m ht h | @rm8Imm8 t e f m v ht h =>
    obtain ⟨pl, rfl⟩ := m.exists_place
    rw [Place.rm8_wellFormed] at h
    simp [decode_postbyte h, ht, Tail.decode]
  | @rm16 t e f m ht h | @rm16Imm8 t e f m v ht h | @rm16Imm16 t e f m v ht h =>
    obtain ⟨pl, rfl⟩ := m.exists_place
    rw [Place.rm16_wellFormed] at h
    simp [decode_postbyte h, ht, Tail.decode, wordBytes]
  | @mem t e f m ht h =>
    exact (decode_postbyte (pl := .mem m) h rest).trans (by rw [ht]; rfl)

/-- After a postbyte at the place `pl`, the decoder reads nothing but what the format says. -/
theorem reads_of_tail_decode {t : BitVec 3 → Tail} {e : BitVec 3} {pl : Place} {i : Instr} {bs rest : List Byte}
    (hpl : pl.wellFormed = true) (h : (t e).decode pl bs = .ok (i, rest)) :
    ∃ cs, (Format.postbyte t).Reads i cs ∧ pl.bytes e ++ bs = cs ++ rest := by
  cases ht : t e <;> rw [ht] at h
  case rm8 f =>
    cases h
    exact ⟨_, .rm8 ht (by simpa using hpl), by simp⟩
  case rm16 f =>
    cases h
    exact ⟨_, .rm16 ht (by simpa using hpl), by simp⟩
  case rm8Imm8 f =>
    match bs, h with
    | v :: more, h =>
      cases h
      exact ⟨_, .rm8Imm8 ht (by simpa using hpl), by simp⟩
  case rm16Imm16 f =>
    match bs, h with
    | lo :: hi :: more, h =>
      cases h
      exact ⟨_, .rm16Imm16 ht (by simpa using hpl), by simp [wordBytes]⟩
  case rm16Imm8 f =>
    match bs, h with
    | v :: more, h =>
      cases h
      exact ⟨_, .rm16Imm8 ht (by simpa using hpl), by simp⟩
  case mem f =>
    match pl, h with
    | .mem m, h =>
      cases h
      exact ⟨_, .mem ht hpl, rfl⟩
  case undefined r => cases h

/-- The decoder reads nothing but what the format says. -/
theorem reads_of_decode {f : Format} {i : Instr} {bs rest : List Byte} (h : f.decode bs = .ok (i, rest)) :
    ∃ cs, f.Reads i cs ∧ bs = cs ++ rest := by
  cases f with
  | plain j =>
    cases h
    exact ⟨_, .plain, rfl⟩
  | byteArg g =>
    match bs, h with
    | v :: more, h =>
      cases h
      exact ⟨_, .byteArg, rfl⟩
  | wordArg g =>
    match bs, h with
    | lo :: hi :: more, h =>
      cases h
      exact ⟨_, .wordArg, by simp [wordBytes]⟩
  | farArg g =>
    match bs, h with
    | olo :: ohi :: slo :: shi :: more, h =>
      cases h
      exact ⟨_, .farArg, by simp [wordBytes]⟩
  | adjust j =>
    match bs, h with
    | v :: more, h =>
      simp only [Format.decode] at h
      split at h
      · next hv =>
        cases h
        exact ⟨_, .adjust, by rw [hv]; rfl⟩
      · cases h
  | postbyte t =>
    match bs, h with
    | p :: more, h =>
      simp only [Format.decode] at h
      split at h
      · next pl more2 hpl =>
        obtain ⟨hwf, hbytes⟩ := bytes_of_decodePlace hpl
        rw [hbytes]
        exact reads_of_tail_decode hwf h
      · cases h
  | undefined => cases h

/-- The bytes after the first one are at most five (R111). -/
theorem Format.Reads.length_le {f : Format} {i : Instr} {cs : List Byte} (h : f.Reads i cs) : cs.length ≤ 5 := by
  cases h with
  | plain | byteArg | wordArg | farArg | adjust => simp [wordBytes]
  | @rm8 t e f m => exact (Laws.EncodeLength.rm8_bytes e m).2.trans (by decide)
  | @rm16 t e f m => exact (Laws.EncodeLength.rm16_bytes e m).2.trans (by decide)
  | @mem t e f m => exact (Laws.EncodeLength.mem_bytes e m).2.trans (by decide)
  | @rm8Imm8 t e f m =>
    have hplace := Laws.EncodeLength.rm8_bytes e m
    simp only [List.length_append, List.length_singleton]
    omega
  | @rm16Imm16 t e f m | @rm16Imm8 t e f m =>
    have hplace := Laws.EncodeLength.rm16_bytes e m
    simp only [List.length_append, wordBytes, List.length_cons, List.length_nil]
    omega

end Sys2Proof
end

section
/-!
SUPPORT. The opcode map, walked twice, row by row: what it reads is what the encoder writes, and what it rejects is the set of
R126. Then the converse of the first: every instruction is read.
-/
namespace Sys2Proof

/-! ## The map (R120) -/

/-- The format of a first byte (R120). -/
def formatOf (b : Byte) : Format := formats.getD b.toNat .undefined

theorem decode_cons (b : Byte) (bs : List Byte) : decode (b :: bs) = (formatOf b).decode bs := rfl

/-- `P` holds of each first byte from `k` on with its format in a row of the opcode map. -/
def RowHolds (P : Byte → Format → Prop) : Nat → List Format → Prop
  | _, [] => True
  | k, f :: fs => P (BitVec.ofNat 8 k) f ∧ RowHolds P (k + 1) fs

theorem RowHolds.append {P : Byte → Format → Prop} {k : Nat} {fs gs : List Format} (h : RowHolds P k fs)
    (g : RowHolds P (k + fs.length) gs) : RowHolds P k (fs ++ gs) := by
  induction fs generalizing k with
  | nil => exact g
  | cons f fs ih =>
    obtain ⟨hf, hfs⟩ := h
    exact ⟨hf, ih hfs (by rwa [Nat.add_right_comm, Nat.add_assoc])⟩

theorem RowHolds.getD {P : Byte → Format → Prop} {k : Nat} {fs : List Format} (h : RowHolds P k fs) {j : Nat}
    (hj : j < fs.length) : P (BitVec.ofNat 8 (k + j)) (fs.getD j .undefined) := by
  induction fs generalizing k j with
  | nil => cases hj
  | cons f fs ih =>
    obtain ⟨hf, hfs⟩ := h
    cases j with
    | zero => exact hf
    | succ j =>
      have htail := ih hfs (Nat.lt_of_succ_lt_succ hj)
      rwa [Nat.add_right_comm, Nat.add_assoc] at htail

/-- `P` holds in each row of the opcode map. -/
def MapHolds (P : Byte → Format → Prop) : Prop :=
  RowHolds P 0x00 formats0 ∧ RowHolds P 0x10 formats1 ∧ RowHolds P 0x20 formats2 ∧ RowHolds P 0x30 formats3 ∧
  RowHolds P 0x40 formats4 ∧ RowHolds P 0x50 formats5 ∧ RowHolds P 0x60 formats6 ∧ RowHolds P 0x70 formats7 ∧
  RowHolds P 0x80 formats8 ∧ RowHolds P 0x90 formats9 ∧ RowHolds P 0xA0 formatsA ∧ RowHolds P 0xB0 formatsB ∧
  RowHolds P 0xC0 formatsC ∧ RowHolds P 0xD0 formatsD ∧ RowHolds P 0xE0 formatsE ∧ RowHolds P 0xF0 formatsF

/-- What holds in each row holds of every first byte (R120). -/
theorem MapHolds.formatOf {P : Byte → Format → Prop} (h : MapHolds P) (b : Byte) : P b (formatOf b) := by
  obtain ⟨h0, h1, h2, h3, h4, h5, h6, h7, h8, h9, hA, hB, hC, hD, hE, hF⟩ := h
  have hmap : RowHolds P 0 formats := by
    simp only [formats, List.append_assoc]
    exact h0.append (h1.append (h2.append (h3.append (h4.append (h5.append (h6.append (h7.append (h8.append (h9.append
      (hA.append (hB.append (hC.append (hD.append (hE.append hF))))))))))))))
  have hlength : formats.length = 256 := by
    simp only [formats, List.length_append]
    rfl
  have hb := hmap.getD (b.isLt.trans_eq hlength.symm)
  rwa [Nat.zero_add, BitVec.ofNat_toNat, BitVec.setWidth_eq] at hb

/-! ## The map agrees with the encoder -/

/-- The encoder gives the instruction these bytes; `wf` says whether it is well formed. -/
structure Instr.Written (i : Instr) (bs : List Byte) (wf : Bool) : Prop where
  bytes : encode i = bs
  wellFormed : i.wellFormed = wf

/-- The first byte `b` and extension `e` are those the encoder gives each instruction of the tail. -/
def Tail.Agrees (b : Byte) (e : BitVec 3) : Tail → Prop
  | .rm8 f => ∀ m, (f m).Written (b :: m.bytes e) m.wellFormed
  | .rm16 f => ∀ m, (f m).Written (b :: m.bytes e) m.wellFormed
  | .rm8Imm8 f => ∀ m v, (f m v).Written (b :: (m.bytes e ++ [v])) m.wellFormed
  | .rm16Imm16 f => ∀ m v, (f m v).Written (b :: (m.bytes e ++ wordBytes v)) m.wellFormed
  | .rm16Imm8 f => ∀ m v, (f m v).Written (b :: (m.bytes e ++ [v])) m.wellFormed
  | .mem f => ∀ m, (f m).Written (b :: m.bytes e) m.wellFormed
  | .undefined _ => True

/-- The first byte `b` is the one the encoder gives each instruction of the format. -/
def Format.Agrees (b : Byte) : Format → Prop
  | .plain i => i.Written [b] true
  | .byteArg g => ∀ v, (g v).Written [b, v] true
  | .wordArg g => ∀ v, (g v).Written (b :: wordBytes v) true
  | .farArg g => ∀ off seg, (g off seg).Written (b :: (wordBytes off ++ wordBytes seg)) true
  | .adjust i => i.Written [b, 0x0A] true
  | .postbyte t => ∀ e, (t e).Agrees b e
  | .undefined => True

/-! The `reg` field of `/r` is the code of the register (R105, R106). -/

theorem agrees_slashR8 {b : Byte} {f : Rm8 → Reg8 → Instr} :
    (slashR8 f).Agrees b ↔ ∀ m r, (f m r).Written (b :: m.bytes r.code) m.wellFormed :=
  ⟨fun h m r => by simpa using h r.code m, fun h e m => by simpa using h m (Reg8.ofCode e)⟩

theorem agrees_slashR16 {b : Byte} {f : Rm16 → Reg16 → Instr} :
    (slashR16 f).Agrees b ↔ ∀ m r, (f m r).Written (b :: m.bytes r.code) m.wellFormed :=
  ⟨fun h m r => by simpa using h r.code m, fun h e m => by simpa using h m (Reg16.ofCode e)⟩

theorem agrees_slashMem {b : Byte} {f : Reg16 → Mem → Instr} :
    (slashMem f).Agrees b ↔ ∀ m r, (f r m).Written (b :: m.bytes r.code) m.wellFormed :=
  ⟨fun h m r => by simpa using h r.code m, fun h e m => by simpa using h m (Reg16.ofCode e)⟩

/-- A statement about every opcode extension is eight statements. -/
theorem forall_code {P : BitVec 3 → Prop} :
    (∀ e, P e) ↔ P 0#3 ∧ P 1#3 ∧ P 2#3 ∧ P 3#3 ∧ P 4#3 ∧ P 5#3 ∧ P 6#3 ∧ P 7#3 := by
  have hcode : ∀ e : BitVec 3, e ∈ [0#3, 1#3, 2#3, 3#3, 4#3, 5#3, 6#3, 7#3] := by decide
  refine ⟨fun h => ⟨h _, h _, h _, h _, h _, h _, h _, h _⟩, fun h e => ?_⟩
  have hall : ∀ e ∈ [0#3, 1#3, 2#3, 3#3, 4#3, 5#3, 6#3, 7#3], P e := by simpa using h
  exact hall e (hcode e)

/-- The opcode map and the encoder agree: every row of the map is an equation of `encode`. -/
theorem map_agrees : MapHolds Format.Agrees := by
  simp only [MapHolds, RowHolds, formats0, formats1, formats2, formats3, formats4, formats5, formats6, formats7, formats8,
    formats9, formatsA, formatsB, formatsC, formatsD, formatsE, formatsF, ↓agrees_slashR8, ↓agrees_slashR16,
    ↓agrees_slashMem, shiftDigits8, shiftDigits16, Format.Agrees, Nat.reduceAdd, and_true, true_and]
  simp only [forall_code, digits, noDigit, slashSeg, slashSegTo, BitVec.toNat_ofNat, Nat.reducePow, Nat.reduceMod,
    List.getD_cons_zero, List.getD_cons_succ, List.getD_nil, Tail.Agrees, and_true, true_and]
  and_intros <;> (intros; exact ⟨rfl, rfl⟩)

/-- What a format reads is what the encoder writes, if format and encoder agree. -/
theorem Format.Reads.written {b : Byte} {f : Format} {i : Instr} {cs : List Byte} (h : f.Reads i cs)
    (hagree : f.Agrees b) : i.Written (b :: cs) true := by
  cases h with
  | plain | adjust => exact hagree
  | byteArg | wordArg => exact hagree _
  | farArg => exact hagree _ _
  | @rm8 t e f m ht h | @rm16 t e f m ht h | @mem t e f m ht h =>
    have htail := hagree e
    rw [ht] at htail
    exact h ▸ htail m
  | @rm8Imm8 t e f m v ht h | @rm16Imm16 t e f m v ht h | @rm16Imm8 t e f m v ht h =>
    have htail := hagree e
    rw [ht] at htail
    exact h ▸ htail m v

/-! ## Every instruction is read (R120) -/

theorem reads_slashR8 {f : Rm8 → Reg8 → Instr} {m : Rm8} {r : Reg8} (h : m.wellFormed = true) :
    (slashR8 f).Reads (f m r) (m.bytes r.code) := by
  simpa [slashR8] using Format.Reads.rm8 (t := fun e => .rm8 fun m => f m (Reg8.ofCode e)) (e := r.code) rfl h

theorem reads_slashR16 {f : Rm16 → Reg16 → Instr} {m : Rm16} {r : Reg16} (h : m.wellFormed = true) :
    (slashR16 f).Reads (f m r) (m.bytes r.code) := by
  simpa [slashR16] using Format.Reads.rm16 (t := fun e => .rm16 fun m => f m (Reg16.ofCode e)) (e := r.code) rfl h

/-- The same for the forms that name their register first. -/
theorem reads_slashR8_swap {f : Reg8 → Rm8 → Instr} {m : Rm8} {r : Reg8} (h : m.wellFormed = true) :
    (slashR8 fun m r => f r m).Reads (f r m) (m.bytes r.code) := reads_slashR8 (f := fun m r => f r m) h

/-- The same for the forms that name their register first. -/
theorem reads_slashR16_swap {f : Reg16 → Rm16 → Instr} {m : Rm16} {r : Reg16} (h : m.wellFormed = true) :
    (slashR16 fun m r => f r m).Reads (f r m) (m.bytes r.code) := reads_slashR16 (f := fun m r => f r m) h

theorem reads_slashMem {f : Reg16 → Mem → Instr} {m : Mem} {r : Reg16} (h : m.wellFormed = true) :
    (slashMem f).Reads (f r m) (m.bytes r.code) := by
  simpa [slashMem] using Format.Reads.mem (t := fun e => .mem fun m => f (Reg16.ofCode e) m) (e := r.code) rfl h

/-- The segment register of MOV r/m16, sreg is the one its code names (R106). -/
theorem slashSeg_code (r : SReg) : slashSeg r.code = .rm16 fun m => .movRm16Sreg m r := by cases r <;> rfl

/-- The first byte of ESC holds the first three bits of its opcode (R331). -/
theorem formatOf_esc (hi : BitVec 3) : formatOf (withReg 0xD8 hi) = .postbyte fun e => .rm16 (.esc hi e) := by
  revert hi
  rw [forall_code]
  and_intros <;> rfl

/-- Each instruction stands in the opcode map, at the first byte the encoder gives it, with the bytes after it. -/
theorem reads_encode (i : Instr) (h : i.wellFormed = true) : ∃ b cs, encode i = b :: cs ∧ (formatOf b).Reads i cs := by
  cases i with
  | addRm8R8 m r | orRm8R8 m r | adcRm8R8 m r | sbbRm8R8 m r | andRm8R8 m r | subRm8R8 m r | xorRm8R8 m r
  | cmpRm8R8 m r | testRm8R8 m r | movRm8R8 m r => exact ⟨_, _, rfl, reads_slashR8 h⟩
  | addR8Rm8 r m | orR8Rm8 r m | adcR8Rm8 r m | sbbR8Rm8 r m | andR8Rm8 r m | subR8Rm8 r m | xorR8Rm8 r m
  | cmpR8Rm8 r m | xchgR8Rm8 r m | movR8Rm8 r m => exact ⟨_, _, rfl, reads_slashR8_swap h⟩
  | addRm16R16 m r | orRm16R16 m r | adcRm16R16 m r | sbbRm16R16 m r | andRm16R16 m r | subRm16R16 m r
  | xorRm16R16 m r | cmpRm16R16 m r | testRm16R16 m r | movRm16R16 m r => exact ⟨_, _, rfl, reads_slashR16 h⟩
  | addR16Rm16 r m | orR16Rm16 r m | adcR16Rm16 r m | sbbR16Rm16 r m | andR16Rm16 r m | subR16Rm16 r m
  | xorR16Rm16 r m | cmpR16Rm16 r m | xchgR16Rm16 r m | movR16Rm16 r m => exact ⟨_, _, rfl, reads_slashR16_swap h⟩
  | lea r m | les r m | lds r m => exact ⟨_, _, rfl, reads_slashMem h⟩
  | addRm8Imm8 m v | addRm8Imm8Alt m v | orRm8Imm8 m v | adcRm8Imm8 m v | adcRm8Imm8Alt m v | sbbRm8Imm8 m v
  | sbbRm8Imm8Alt m v | andRm8Imm8 m v | subRm8Imm8 m v | subRm8Imm8Alt m v | xorRm8Imm8 m v | cmpRm8Imm8 m v
  | cmpRm8Imm8Alt m v | movRm8Imm8 m v | testRm8Imm8 m v => exact ⟨_, _, rfl, .rm8Imm8 rfl h⟩
  | addRm16Imm16 m v | orRm16Imm16 m v | adcRm16Imm16 m v | sbbRm16Imm16 m v | andRm16Imm16 m v | subRm16Imm16 m v
  | xorRm16Imm16 m v | cmpRm16Imm16 m v | movRm16Imm16 m v | testRm16Imm16 m v => exact ⟨_, _, rfl, .rm16Imm16 rfl h⟩
  | addRm16SImm8 m v | adcRm16SImm8 m v | sbbRm16SImm8 m v | subRm16SImm8 m v | cmpRm16SImm8 m v =>
    exact ⟨_, _, rfl, .rm16Imm8 rfl h⟩
  | rolRm8One m | rorRm8One m | rclRm8One m | rcrRm8One m | shlRm8One m | shrRm8One m | sarRm8One m | rolRm8Cl m
  | rorRm8Cl m | rclRm8Cl m | rcrRm8Cl m | shlRm8Cl m | shrRm8Cl m | sarRm8Cl m | notRm8 m | negRm8 m | mulRm8 m
  | imulRm8 m | divRm8 m | idivRm8 m | incRm8 m | decRm8 m => exact ⟨_, _, rfl, .rm8 rfl h⟩
  | rolRm16One m | rorRm16One m | rclRm16One m | rcrRm16One m | shlRm16One m | shrRm16One m | sarRm16One m | rolRm16Cl m
  | rorRm16Cl m | rclRm16Cl m | rcrRm16Cl m | shlRm16Cl m | shrRm16Cl m | sarRm16Cl m | notRm16 m | negRm16 m | mulRm16 m
  | imulRm16 m | divRm16 m | idivRm16 m | incRm16 m | decRm16 m | callRm16 m | jmpRm16 m | pushRm16 m | popRm16 m
  | movEsRm16 m | movSsRm16 m | movDsRm16 m => exact ⟨_, _, rfl, .rm16 rfl h⟩
  | callMem m | jmpMem m => exact ⟨_, _, rfl, .mem rfl h⟩
  | movRm16Sreg m r => exact ⟨_, _, rfl, .rm16 (slashSeg_code r) h⟩
  | esc hi lo m => exact ⟨_, _, rfl, formatOf_esc hi ▸ .rm16 rfl h⟩
  | incR16 r | decR16 r | pushR16 r | popR16 r => cases r <;> exact ⟨_, _, rfl, .plain⟩
  | movR8Imm8 r v => cases r <;> exact ⟨_, _, rfl, .byteArg⟩
  | movR16Imm16 r v => cases r <;> exact ⟨_, _, rfl, .wordArg⟩
  | addAlImm8 v | orAlImm8 v | adcAlImm8 v | sbbAlImm8 v | andAlImm8 v | subAlImm8 v | xorAlImm8 v | cmpAlImm8 v
  | testAlImm8 v | jo v | jno v | jb v | jae v | je v | jne v | jbe v | ja v | js v | jns v | jp v | jnp v | jl v | jge v
  | jle v | jg v | intN v | loopne v | loope v | loop v | jcxz v | inAlPort v | inAxPort v | outPortAl v | outPortAx v
  | jmpShort v => exact ⟨_, _, rfl, .byteArg⟩
  | addAxImm16 v | orAxImm16 v | adcAxImm16 v | sbbAxImm16 v | andAxImm16 v | subAxImm16 v | xorAxImm16 v | cmpAxImm16 v
  | testAxImm16 v | movAlAddr v | movAxAddr v | movAddrAl v | movAddrAx v | retNearN v | retFarN v | callNear v
  | jmpNear v => exact ⟨_, _, rfl, .wordArg⟩
  | callFar off seg | jmpFar off seg => exact ⟨_, _, rfl, .farArg⟩
  | aam | aad => exact ⟨_, _, rfl, .adjust⟩
  | _ => exact ⟨_, _, rfl, .plain⟩

/-! ## What the map rejects (R126, R124, R345, R346) -/

/-- The tail has no instruction for the postbyte `p`: an undefined extension, or a register form where memory is needed
(R126, R124). -/
def Tail.Rejects (p : Byte) : Tail → Prop
  | .undefined _ => True
  | .mem _ => Spec.RegisterForm p
  | .rm8 _ | .rm16 _ | .rm8Imm8 _ | .rm16Imm16 _ | .rm16Imm8 _ => False

/-- The format has no instruction for the second byte `p` (R126, R345, R346). -/
def Format.Rejects (p : Byte) : Format → Prop
  | .undefined => True
  | .adjust _ => p ≠ 0x0A
  | .postbyte t => (t (regField p)).Rejects p
  | .plain _ | .byteArg _ | .wordArg _ | .farArg _ => False

/-- The extension of the statements is the `reg` field (R107). -/
theorem toNat_regField (p : Byte) : (regField p).toNat = Spec.ext p := by
  simp [regField, Nat.shiftRight_eq_div_pow]

/-- The register form of the statements is mod = 11 (R108). -/
theorem modField_eq_three_iff (p : Byte) : modField p = 3 ↔ Spec.RegisterForm p := by
  have hlt : p.toNat / 64 < 4 := Nat.div_lt_of_lt_mul p.isLt
  rw [← BitVec.toNat_inj, modField, BitVec.extractLsb'_toNat, Nat.shiftRight_eq_div_pow, Nat.mod_eq_of_lt hlt]
  rfl

theorem Tail.decode_error_iff {t : Tail} {p : Byte} {pl : Place} {rest : List Byte} (h : 2 ≤ rest.length)
    (hpl : (∃ c, pl = .reg c) ↔ Spec.RegisterForm p) : (∃ e, t.decode pl rest = .error e) ↔ t.Rejects p := by
  match rest, h with
  | lo :: hi :: more, _ =>
    cases t with
    | rm8 | rm16 | rm8Imm8 | rm16Imm16 | rm16Imm8 => exact iff_of_false nofun id
    | undefined r => exact iff_of_true ⟨r, rfl⟩ trivial
    | mem f =>
      cases pl with
      | reg c => exact iff_of_true ⟨_, rfl⟩ (hpl.1 ⟨c, rfl⟩)
      | mem m => exact iff_of_false nofun fun hp => nomatch hpl.2 hp

/-- With four more bytes nothing is cut short: an error is a rejection by the format (R112, R113). -/
theorem Format.decode_error_iff {f : Format} {p : Byte} {rest : List Byte} (h : 4 ≤ rest.length) :
    (∃ e, f.decode (p :: rest) = .error e) ↔ f.Rejects p := by
  cases f with
  | plain | byteArg => exact iff_of_false nofun id
  | wordArg | farArg =>
    match rest, h with
    | _ :: _ :: _ :: _ :: _, _ => exact iff_of_false nofun id
  | adjust i =>
    simp only [Format.decode, Format.Rejects]
    split
    · next hp => simp [hp]
    · next hp => exact iff_of_true ⟨_, rfl⟩ hp
  | undefined => exact iff_of_true ⟨_, rfl⟩ trivial
  | postbyte t =>
    obtain ⟨pl, more, hd, hlen, hpl⟩ := decodePlace_total p (bs := rest) (by omega)
    simp only [Format.decode, hd]
    exact Tail.decode_error_iff (by omega) (hpl.trans (modField_eq_three_iff p))

theorem ext_lt (p : Byte) : Spec.ext p < 8 := Nat.mod_lt _ (by decide)

/-- The opcode map rejects the set of R126, R345 and R346: most first bytes reject nothing, or all, and a group rejects by its
extension. -/
theorem map_rejects : MapHolds fun b f => ∀ p, f.Rejects p ↔ Spec.Undefined b p := by
  simp only [MapHolds, RowHolds, formats0, formats1, formats2, formats3, formats4, formats5, formats6, formats7, formats8,
    formats9, formatsA, formatsB, formatsC, formatsD, formatsE, formatsF, slashR8, slashR16, slashMem, shiftDigits8,
    shiftDigits16, digits, noDigit, slashSeg, slashSegTo, toNat_regField, Format.Rejects, Tail.Rejects, Spec.Undefined,
    BitVec.toNat_ofNat, Nat.reduceAdd, Nat.reducePow, Nat.reduceMod, Nat.reduceEqDiff, Nat.reduceLeDiff,
    OfNat.zero_ne_ofNat, OfNat.one_ne_ofNat, List.mem_cons, List.not_mem_nil, and_true, true_and, and_false, false_and,
    or_true, or_false, false_or, iff_self, implies_true]
  and_intros
  all_goals
    intro p
    have he := ext_lt p
    generalize Spec.ext p = e at he ⊢
    interval_cases e <;> simp

end Sys2Proof
end

section
/-!
SUPPORT. Where a step stops: what the fetch refuses, and the bus cycle that nothing answers; and what the prefixes
record.
-/
namespace Sys2Proof.Machine

/-! ## The fetch refused (R126, R119, R76) -/

theorem fetch_of_decode_error {s : State} {e : Reject} (h : decode s.fetchBytes = .error e) : s.fetch = .error e := by
  unfold State.fetch
  rw [h]

theorem run_of_truncated {s : State} (h : s.ready) (hf : s.fetch = .error .truncated) :
    run s = .refused .fetchOutsideMemory := by
  obtain ⟨_, _, hh, hi⟩ := h
  simp [run, hh, hi, hf]

theorem run_of_undefined {s : State} {e : Reject} (h : s.ready) (hf : s.fetch = .error e) (he : e ≠ .truncated) :
    run s = .refused (.undefinedEncoding e) := by
  obtain ⟨_, _, hh, hi⟩ := h
  simp [run, hh, hi, hf]

theorem run_of_misplacedRepeat {s t : State} {i : Instr} (h : s.ready) (hf : s.fetch = .ok (i, t))
    (hm : s.misplacedRepeat i = true) : run s = .refused .repeatBeforeNonString := by
  obtain ⟨_, _, hh, hi⟩ := h
  simp [run, hh, hi, hf, hm]

/-- A refused run is a refused step: no bus cycle is looked at. -/
theorem step_of_run_refused {s : State} {r : Refusal} (h : s.ready) (hr : run s = .refused r) : step s = .refused r := by
  rw [step_of_ready h, hr]
  rfl

/-! ## The bus cycles of a step (R78) -/

theorem newCycles_of_append {s t : State} {cs : List BusCycle} (h : t.bus = cs ++ s.bus) :
    s.newCycles t = cs.reverse := by
  simp [State.newCycles, gained, h]

theorem answered_iff {s : State} {c : BusCycle} : s.answered c = true ↔ ∀ a ∈ c.addresses, s.kindAt a ≠ .absent := by
  simp [State.answered]

/-- A run completes where each of its bus cycles is answered; else the step is refused (R78). -/
theorem complete_next_of_append {s t : State} {cs : List BusCycle} (h : t.bus = cs ++ s.bus) :
    s.complete (.next t) =
      if ∀ c ∈ cs, ∀ a ∈ c.addresses, s.kindAt a ≠ .absent then .next t else .refused .noDevice := by
  simp [State.complete, newCycles_of_append h, answered_iff]

end Sys2Proof.Machine

namespace Sys2Proof.Spec
open Sys2Proof.Machine

theorem overrides_of_exec {s : State} {i : Instr} {q : SReg} (h : exec i s = overrideSegment q s) : Overrides s i q := by
  refine ⟨fun hseg => ?_, fun hseg => ?_⟩
  · simp [h, overrideSegment, hseg]
  · simp [h, overrideSegment, Option.isSome_iff_ne_none.2 hseg]

theorem repeats_of_exec {s : State} {i : Instr} {p : RepeatPrefix} (h : exec i s = repeatNext p s) : Repeats s i p := by
  refine ⟨fun hrep => ?_, fun hrep => ?_⟩
  · simp [h, repeatNext, hrep]
  · simp [h, repeatNext, Option.isSome_iff_ne_none.2 hrep]

end Sys2Proof.Spec
end

section
/-!
The statements about the encoding, settled: decoder and encoder, the encodings rejected, and where a step is refused.
-/
namespace Sys2Proof.Proofs
open Sys2Proof.Machine Sys2Proof.Spec

/-- Settles O1: the opcode map reads the bytes of the encoder, whatever follows. -/
theorem decodeEncode : Obligations.DecodeEncode := by
  intro i rest h
  obtain ⟨b, cs, hbytes, hreads⟩ := reads_encode i h
  rw [hbytes, List.cons_append, decode_cons]
  exact hreads.decode_append rest

/-- Settles O2: a format reads no other bytes than those the encoder writes for the instruction. -/
theorem encodeDecode : Obligations.EncodeDecode := by
  intro bs i rest h
  cases bs with
  | nil => cases h
  | cons b bs =>
    rw [decode_cons] at h
    obtain ⟨cs, hreads, rfl⟩ := reads_of_decode h
    obtain ⟨hbytes, hwf⟩ := hreads.written (map_agrees.formatOf b)
    have hlength := hreads.length_le
    rw [hbytes, List.length_cons]
    exact ⟨rfl, hwf, by omega, by omega⟩

/-- Settles O4: with four more bytes an error is a rejection by the opcode map. -/
theorem undefinedEncodings : Obligations.UndefinedEncodings := by
  intro b p rest h
  rw [decode_cons]
  exact (Format.decode_error_iff h).trans (map_rejects.formatOf b p)

/-- Settles O3: each word is the encoding of its instruction. -/
theorem sampleWords : Obligations.SampleWords :=
  ⟨decodeEncode (.addRm16R16 (.reg .ax) .cx) [] rfl,
    decodeEncode (.subR16Rm16 .dx (.mem (.disp8 .bp 2))) [] rfl,
    decodeEncode (.idivRm16 (.reg .bx)) [] rfl,
    decodeEncode (.sarRm16Cl (.reg .bx)) [] rfl,
    decodeEncode (.jmpFar 0x0100 0x2000) [] rfl,
    decodeEncode .rep [0xA5] rfl,
    decodeEncode .movsw [] rfl,
    decodeEncode (.les .di (.disp8 .di 4)) [] rfl,
    decodeEncode .aam [] rfl⟩

/-- Settles O6: the refusals of the fetch, each a case of the run, and the completion of a run whose bus cycles are known. -/
theorem stepRefusals : Obligations.StepRefusals := by
  intro s hs hq
  rw [← fetchBytes_of_empty hq]
  refine ⟨?undefined, ?truncated, ?misplaced, ?cycles⟩
  case undefined => exact fun e he hd => step_of_run_refused hs (run_of_undefined hs (fetch_of_decode_error hd) he)
  case truncated => exact fun hd => step_of_run_refused hs (run_of_truncated hs (fetch_of_decode_error hd))
  case misplaced =>
    intro i rest hd hrep hstring hprefix
    have hm : s.misplacedRepeat i = true := by
      simp [State.misplacedRepeat, Option.isSome_iff_ne_none.2 hrep, hstring, hprefix]
    exact step_of_run_refused hs (run_of_misplacedRepeat hs (fetch_of_decode hd) hm)
  case cycles =>
    intro u cs hu hbus
    rw [step_of_ready hs, hu, complete_next_of_append hbus]
    exact ⟨fun ⟨c, hc, a, ha, habsent⟩ => if_neg fun hall => hall c hc a ha habsent, fun hall => if_pos hall⟩

/-- Settles O54: the prefixes are the two operations that record one or refuse a second, and LOCK. -/
theorem prefixBytes : Obligations.PrefixBytes := by
  intro s
  have hlock : exec .lockPrefix s = execLockPrefix s := rfl
  refine ⟨overrides_of_exec rfl, overrides_of_exec rfl, overrides_of_exec rfl, overrides_of_exec rfl,
    repeats_of_exec rfl, repeats_of_exec rfl, fun h => ?_, fun h => ?_, lockOutput_eq_lockOn s⟩
  · simp [hlock, execLockPrefix, h]
  · simp [hlock, execLockPrefix, h]

end Sys2Proof.Proofs
end

section
/-!
SUPPORT. The places of operands: what a read notes on the bus, what a write leaves at its place and elsewhere, and the frame
of both; the shape that every instruction with one written place has.
-/
namespace Sys2Proof.Spec
open Sys2Proof.Machine

/-! ## Registers -/

/-- No byte register is a part of SP, BP, SI or DI (R21). -/
theorem set8_pointers (g : Regs) (r : Reg8) (v : Byte) :
    (g.set8 r v).sp = g.sp ∧ (g.set8 r v).bp = g.bp ∧ (g.set8 r v).si = g.si ∧ (g.set8 r v).di = g.di := by
  cases r <;> exact ⟨rfl, rfl, rfl, rfl⟩

theorem reg8_setReg8_same (s : State) (r : Reg8) (v : Byte) : (s.setReg8 r v).reg8 r = v := Regs.get8_set8_same _ r v

theorem reg8_setReg8_other (s : State) {r q : Reg8} (h : q ≠ r) (v : Byte) : (s.setReg8 r v).reg8 q = s.reg8 q :=
  Regs.get8_set8_other _ v h

theorem reg16_setReg16_same (s : State) (r : Reg16) (v : Word) : (s.setReg16 r v).reg16 r = v :=
  Regs.get16_set16_same _ r v

theorem regsKeptBut_setReg16 (s : State) (r : Reg16) (v : Word) : RegsKeptBut r s (s.setReg16 r v) :=
  fun _ hq => Regs.get16_set16_other _ _ hq

/-- A write to AL or AH changes AX alone (R21). -/
theorem regsKeptBut_setReg8_ax (s : State) {r : Reg8} (hr : r = .al ∨ r = .ah) (v : Byte) :
    RegsKeptBut .ax s (s.setReg8 r v) := by
  intro q hq
  cases q with
  | ax => exact absurd rfl hq
  | _ => rcases hr with rfl | rfl <;> rfl

/-- What a segment register holds after a segment register was written (R25). -/
theorem sreg_setSreg (s : State) (q p : SReg) (v : Word) : (s.setSreg q v).sreg p = if p = q then v else s.sreg p := by
  cases q <;> cases p <;> rfl

theorem inner_setSreg (s : State) (q : SReg) (v : Word) : Inner s (s.setSreg q v) := by
  simp [Inner]

/-! ## Bus cycles noted by reads -/

theorem byteCycles_eq (s : State) (d : Direction) (a : PhysAddr) (v : Byte) :
    s.byteCycles d a v = [⟨d, .memory a, .byte v, lockOn s⟩] := by
  rw [State.byteCycles, lockOutput_eq_lockOn]

theorem noteReadByte_eq_after (s : State) (seg off : Word) :
    s.noteReadByte seg off = after s (reads8 s (.mem seg off)) := by
  rw [State.noteReadByte, State.onBus, byteCycles_eq]
  rfl

theorem noteReadWord_eq_after (s : State) (seg off : Word) :
    s.noteReadWord seg off = after s (reads16 s (.mem seg off)) := by
  rw [State.noteReadWord, State.onBus, wordCycles_eq]
  rfl

/-- A byte place read: its bus cycles, none for a register, and nothing else. -/
theorem noteGet8_eq_after (s : State) (l : Loc8) : s.noteGet8 l = after s (reads8 s l) := by
  cases l with
  | reg r => rfl
  | mem seg off => exact noteReadByte_eq_after s seg off

/-- A word place read: its bus cycles, none for a register, and nothing else. -/
theorem noteGet16_eq_after (s : State) (l : Loc16) : s.noteGet16 l = after s (reads16 s l) := by
  cases l with
  | reg r => rfl
  | mem seg off => exact noteReadWord_eq_after s seg off

/-- The second word of a far pointer, read after the first (R151). -/
theorem farSegment_eq_farSecond (s : State) (m : Mem) : s.farSegment m = farSecond s m := by
  rw [State.farSegment, State.noteFarOffset, noteReadWord_eq_after]
  rfl

/-- A far pointer read: the bus cycles of its two words, and nothing else (R151). -/
theorem noteFar_eq_after (s : State) (m : Mem) : s.noteFar m = after s (farCycles s m) := by
  rw [State.noteFar, State.noteFarOffset, noteReadWord_eq_after, noteReadWord_eq_after, after, after, ← List.append_assoc]
  rfl

/-- The top of the stack read and SP raised (R161). -/
theorem popped_eq_after (s : State) : s.popped = (after s (topCycles s)).setReg16 .sp (s.regs.sp + 2) := by
  rw [State.popped, noteReadWord_eq_after]
  rfl

/-! ## Frames -/

theorem frame_after (s : State) (cs : List BusCycle) : Frame cs s (after s cs) := by
  simp [Frame, Segs, Inner, after]

theorem frame_setReg8 (s : State) (r : Reg8) (v : Byte) : Frame [] s (s.setReg8 r v) := by
  simp [Frame, Segs, Inner]

theorem frame_setFlags (s : State) (f : Flags) : Frame [] s (s.setFlags f) := by
  simp [Frame, Segs, Inner]

theorem frame_drawn (s : State) (n : Nat) : Frame [] s (s.drawn n) := by
  simp [Frame, Segs, Inner]

theorem frame_writeByte (s : State) (seg off : Word) (v : Byte) :
    Frame (cycles8 (lockOn s) .write (.mem seg off) v) s (s.writeByte seg off v) := by
  simp [Frame, Segs, Inner, cycles8, byteCycles_eq]

theorem frame_put8 (s : State) (l : Loc8) (v : Byte) : Frame (cycles8 (lockOn s) .write l v) s (s.put8 l v) := by
  cases l with
  | reg r => exact frame_setReg8 s r v
  | mem seg off => exact frame_writeByte s seg off v

theorem frame_put16 (s : State) (l : Loc16) (v : Word) : Frame (cycles16 (lockOn s) .write l v) s (s.put16 l v) := by
  cases l with
  | reg r => exact frame_setReg16 s r v
  | mem seg off => exact frame_writeWord s seg off v

theorem Frame.platform_eq {cs : List BusCycle} {s t : State} (h : Frame cs s t) : t.platform = s.platform := by
  obtain ⟨-, ⟨-, -, hplatform, -⟩, -⟩ := h
  exact hplatform

/-! ## A place written -/

/-- Which bytes a place covers depends on the platform alone. -/
theorem covers8_congr {s t : State} (h : t.platform = s.platform) (l : Loc8) (a : PhysAddr) :
    covers8 t l a ↔ covers8 s l a := by
  cases l <;> simp [covers8, isMemory_congr h]

theorem covers16_congr {s t : State} (h : t.platform = s.platform) (l : Loc16) (a : PhysAddr) :
    covers16 t l a ↔ covers16 s l a := by
  cases l <;> simp [covers16, isMemory_congr h]

/-- A byte place holds what is written there, and nothing else changes (R21, R76). -/
theorem written8_put8 {s : State} (h : s.mem.wf = true) (l : Loc8) (v : Byte) : Written8 s (s.put8 l v) l v := by
  cases l with
  | reg r =>
    exact ⟨Regs.get8_set8_same _ r v, fun q hq => Regs.get8_set8_other _ v fun e => hq (congrArg _ e.symm),
      set8_pointers _ r v, fun _ _ => rfl⟩
  | mem seg off =>
    exact ⟨memoryByte_writeByte h seg off v, fun _ _ => rfl, ⟨rfl, rfl, rfl, rfl⟩,
      fun _ ha => memoryByte_writePhys_uncovered s v ha⟩

/-- A word place holds what is written there, and nothing else changes (R60, R76). -/
theorem written16_put16 {s : State} (h : s.mem.wf = true) (l : Loc16) (v : Word) : Written16 s (s.put16 l v) l v := by
  cases l with
  | reg r =>
    exact ⟨Regs.get16_set16_same _ r v, fun q hq => Regs.get16_set16_other _ v fun e => hq (congrArg _ e.symm),
      fun _ _ => rfl⟩
  | mem seg off =>
    exact ⟨storedWord_writeWord h seg off v, fun _ _ => rfl, fun _ ha => memoryByte_writeWord_uncovered s seg off v ha⟩

/-- What was written is the same seen from a state with the same registers, memory and platform. -/
theorem Written8.of_same {s u t : State} {l : Loc8} {v : Byte} (h : Written8 u t l v) (hregs : u.regs = s.regs)
    (hmem : u.mem = s.mem) (hplatform : u.platform = s.platform) : Written8 s t l v where
  value := h.value
  bytes := fun r hr => (h.bytes r hr).trans (congrArg (·.get8 r) hregs)
  words := hregs ▸ h.words
  memory := fun a ha => (h.memory a fun hu => ha ((covers8_congr hplatform l a).1 hu)).trans
    (congrArg (·.read a.toNat) hmem)

theorem Written16.of_same {s u t : State} {l : Loc16} {v : Word} (h : Written16 u t l v) (hregs : u.regs = s.regs)
    (hmem : u.mem = s.mem) (hplatform : u.platform = s.platform) : Written16 s t l v where
  value := h.value
  words := fun r hr => (h.words r hr).trans (congrArg (·.get16 r) hregs)
  memory := fun a ha => (h.memory a fun hu => ha ((covers16_congr hplatform l a).1 hu)).trans
    (congrArg (·.read a.toNat) hmem)

/-- A word stored in plain memory is read back (R60, R76). -/
theorem readWord_of_storedWord {t : State} {seg off v : Word} (hplain : PlainWord t seg off)
    (h : StoredWord t seg off v) : t.readWord seg off = v := by
  obtain ⟨hlo, hhi⟩ := hplain
  rw [State.readWord, readPhys_memory hlo, readPhys_memory hhi, h.1 hlo, h.2 hhi]
  exact wordOf_halves v

/-! ## Instructions that write one place -/

/-- An instruction runs as `Runs8` says if it comes, by the bus cycles `cs`, to a state `u` with the same registers and memory
and the flags in question, and then writes the byte. -/
theorem runs8_of_put8 {s u : State} {i : Instr} {cs : List BusCycle} {l : Loc8} {v : Byte} {R : Byte → Prop}
    {F : Byte → Flags → Prop} (hwf : s.mem.wf = true) (he : exec i s = .next (u.put8 l v)) (hregs : u.regs = s.regs)
    (hmem : u.mem = s.mem) (hframe : Frame cs s u) (hR : R v) (hF : F v u.flags) : Runs8 s i cs l R F :=
  ⟨u.put8 l v, v, he, (written8_put8 (hmem ▸ hwf) l v).of_same hregs hmem hframe.platform_eq, hR,
    (State.put8_flags u l v).symm ▸ hF, hframe.lockOn_eq ▸ hframe.trans (frame_put8 u l v)⟩

theorem runs16_of_put16 {s u : State} {i : Instr} {cs : List BusCycle} {l : Loc16} {v : Word} {R : Word → Prop}
    {F : Word → Flags → Prop} (hwf : s.mem.wf = true) (he : exec i s = .next (u.put16 l v)) (hregs : u.regs = s.regs)
    (hmem : u.mem = s.mem) (hframe : Frame cs s u) (hR : R v) (hF : F v u.flags) : Runs16 s i cs l R F :=
  ⟨u.put16 l v, v, he, (written16_put16 (hmem ▸ hwf) l v).of_same hregs hmem hframe.platform_eq, hR,
    (State.put16_flags u l v).symm ▸ hF, hframe.lockOn_eq ▸ hframe.trans (frame_put16 u l v)⟩

end Sys2Proof.Spec
end

section
/-!
SUPPORT. The shapes of the data transfer instructions (R140 to R171), each from the operations that the meaning is made of.
-/
namespace Sys2Proof.Spec
open Sys2Proof.Machine

/-! ## MOV (R141 to R147) -/

/-- A move of a value that no memory operand is read for. -/
theorem moves8_of_store {s : State} {i : Instr} {l : Loc8} {x : Byte} (hwf : s.mem.wf = true)
    (he : exec i s = .next (s.put8 l x)) : Moves8 s i l x [] :=
  runs8_of_put8 hwf he rfl rfl (frame_after s []) rfl rfl

theorem moves16_of_store {s : State} {i : Instr} {l : Loc16} {x : Word} (hwf : s.mem.wf = true)
    (he : exec i s = .next (s.put16 l x)) : Moves16 s i l x [] :=
  runs16_of_put16 hwf he rfl rfl (frame_after s []) rfl rfl

/-- A move from the place `p`, which is read first. -/
theorem moves8_of_load {s : State} {i : Instr} {l p : Loc8} {x : Byte} (hwf : s.mem.wf = true)
    (he : exec i s = .next ((s.noteGet8 p).put8 l x)) : Moves8 s i l x (reads8 s p) := by
  rw [noteGet8_eq_after] at he
  exact runs8_of_put8 hwf he rfl rfl (frame_after s _) rfl rfl

theorem moves16_of_load {s : State} {i : Instr} {l p : Loc16} {x : Word} (hwf : s.mem.wf = true)
    (he : exec i s = .next ((s.noteGet16 p).put16 l x)) : Moves16 s i l x (reads16 s p) := by
  rw [noteGet16_eq_after] at he
  exact runs16_of_put16 hwf he rfl rfl (frame_after s _) rfl rfl

/-! ## Segment registers (R145, R151, R152, R165) -/

theorem loadsSegment_of_exec {s : State} {i : Instr} {q : SReg} {p : Loc16} {x : Word}
    (he : exec i s = .next ((s.noteGet16 p).loadSreg q x)) : LoadsSegment s i q x (reads16 s p) := by
  rw [noteGet16_eq_after] at he
  let u := after s (reads16 s p)
  exact ⟨u.loadSreg q x, he, fun r => sreg_setSreg u q r x, fun r => congrArg (·.get16 r) (State.loadSreg_regs u q x),
    State.loadSreg_flags u q x, State.loadSreg_memoryByte u q x, inner_setSreg u q x, State.loadSreg_ip u q x,
    State.loadSreg_bus u q x, rfl⟩

theorem popsSegment_of_exec {s : State} {i : Instr} {q : SReg} (he : exec i s = .next (s.popped.loadSreg q s.top)) :
    PopsSegment s i q := by
  rw [popped_eq_after] at he
  let u := (after s (topCycles s)).setReg16 .sp (s.regs.sp + 2)
  have regs_eq : (u.loadSreg q s.top).regs = u.regs := State.loadSreg_regs u q s.top
  exact ⟨u.loadSreg q s.top, he, fun r => sreg_setSreg u q r s.top, congrArg Regs.sp regs_eq,
    fun r hr => (congrArg (·.get16 r) regs_eq).trans (regsKeptBut_setReg16 _ .sp _ r hr),
    State.loadSreg_flags u q s.top, State.loadSreg_memoryByte u q s.top, inner_setSreg u q s.top,
    State.loadSreg_ip u q s.top, State.loadSreg_bus u q s.top, rfl⟩

theorem loadsFar_of_exec {s : State} {i : Instr} {r : Reg16} {q : SReg} {m : Mem}
    (he : exec i s = loadPointer q r m s) : LoadsFar s i r q m := by
  rw [loadPointer, noteFar_eq_after, farSegment_eq_farSecond] at he
  let u := (after s (farCycles s m)).setReg16 r (farFirst s m)
  have regs_eq : (u.setSreg q (farSecond s m)).regs = u.regs := State.setSreg_regs u q _
  exact ⟨u.setSreg q (farSecond s m), he, (congrArg (·.get16 r) regs_eq).trans (reg16_setReg16_same _ r _),
    fun p => sreg_setSreg u q p _, fun x hx => (congrArg (·.get16 x) regs_eq).trans (regsKeptBut_setReg16 _ r _ x hx),
    State.setSreg_flags u q _, State.setSreg_memoryByte u q _, inner_setSreg u q _, State.setSreg_ip u q _,
    State.setSreg_shadow u q _, State.setSreg_bus u q _⟩

/-! ## XCHG (R149, R150) -/

/-- The state in which XCHG makes its accesses to a memory operand: LOCK is in force (R89, R149). -/
def locked (s : State) : State := { s with pfx := { s.pfx with lock := true } }

/-- LOCK is active under the lock of XCHG wherever a lock reaches the output (R89, R381). -/
theorem lockOn_locked (s : State) : lockOn (locked s) = lockable s := rfl

theorem loc8_locked (s : State) (m : Rm8) : (locked s).loc8 m = s.loc8 m := by cases m <;> rfl

theorem loc16_locked (s : State) (m : Rm16) : (locked s).loc16 m = s.loc16 m := by cases m <;> rfl

theorem get8_locked (s : State) (l : Loc8) : (locked s).get8 l = s.get8 l := by cases l <;> rfl

theorem get16_locked (s : State) (l : Loc16) : (locked s).get16 l = s.get16 l := by cases l <;> rfl

/-- The bus cycles of the read under the lock. -/
theorem reads8_locked (s : State) (l : Loc8) : reads8 (locked s) l = cycles8 (lockable s) .read l (s.get8 l) := by
  rw [reads8, lockOn_locked, get8_locked]

theorem reads16_locked (s : State) (l : Loc16) : reads16 (locked s) l = cycles16 (lockable s) .read l (s.get16 l) := by
  rw [reads16, lockOn_locked, get16_locked]

/-- The lock of XCHG is released with no trace: the prefixes are as before (R149). -/
theorem frame_unlocked {s u : State} {cs : List BusCycle} (h : Frame cs (locked s) u) :
    Frame cs s { u with pfx := s.pfx } := by
  obtain ⟨segs, ⟨hhalted, hpins, hplatform, hparams, -, hprogress, hstart, hraised, hfetches⟩, hip, hshadow, hbus⟩ := h
  exact ⟨segs, ⟨hhalted, hpins, hplatform, hparams, rfl, hprogress, hstart, hraised, hfetches⟩, hip, hshadow, hbus⟩

/-- The byte place `l` and the register `r` exchanged: the place read and written under the lock, then the register (R149). -/
def exchanged8 (s : State) (l : Loc8) (r : Reg8) : State :=
  { ((after (locked s) (reads8 (locked s) l)).put8 l (s.reg8 r)).setReg8 r (s.get8 l) with pfx := s.pfx }

/-- The word place `l` and the register `r` exchanged. -/
def exchanged16 (s : State) (l : Loc16) (r : Reg16) : State :=
  { ((after (locked s) (reads16 (locked s) l)).put16 l (s.reg16 r)).setReg16 r (s.get16 l) with pfx := s.pfx }

theorem exec_xchgR8Rm8 (s : State) (r : Reg8) (m : Rm8) :
    exec (.xchgR8Rm8 r m) s = .next (exchanged8 s (s.loc8 m) r) := by
  rw [exchanged8, ← noteGet8_eq_after, ← get8_locked, ← loc8_locked]
  rfl

theorem exec_xchgR16Rm16 (s : State) (r : Reg16) (m : Rm16) :
    exec (.xchgR16Rm16 r m) s = .next (exchanged16 s (s.loc16 m) r) := by
  rw [exchanged16, ← noteGet16_eq_after, ← get16_locked, ← loc16_locked]
  rfl

/-- A place keeps what it holds when a register is written after it, unless it is that register and holds something else. -/
theorem Holds8.setReg8 {t : State} {l : Loc8} {v w : Byte} {r : Reg8} (h : Holds8 t l v) (hr : l = .reg r → w = v) :
    Holds8 (t.setReg8 r w) l v := by
  cases l with
  | reg q =>
    by_cases hq : q = r
    · subst hq
      exact (reg8_setReg8_same t q w).trans (hr rfl)
    · exact (reg8_setReg8_other t hq w).trans h
  | mem seg off => exact h

theorem Holds16.setReg16 {t : State} {l : Loc16} {v w : Word} {r : Reg16} (h : Holds16 t l v) (hr : l = .reg r → w = v) :
    Holds16 (t.setReg16 r w) l v := by
  cases l with
  | reg q =>
    by_cases hq : q = r
    · subst hq
      exact (reg16_setReg16_same t q w).trans (hr rfl)
    · exact (regsKeptBut_setReg16 t r w q hq).trans h
  | mem seg off => exact h

/-- After the exchange the place and the register hold each other's value; nothing else is written, and a place in memory is
read and written in cycles with LOCK active (R149, R89). -/
theorem exchanged8_exchanges {s : State} (hwf : s.mem.wf = true) (l : Loc8) (r : Reg8) :
    let t := exchanged8 s l r
    t.reg8 r = s.get8 l ∧ Holds8 t l (s.reg8 r) ∧ (∀ q, q ≠ r → l ≠ .reg q → t.reg8 q = s.reg8 q) ∧
      (t.regs.sp = s.regs.sp ∧ t.regs.bp = s.regs.bp ∧ t.regs.si = s.regs.si ∧ t.regs.di = s.regs.di) ∧
      (∀ a, ¬ covers8 s l a → t.memoryByte a = s.memoryByte a) ∧ t.flags = s.flags ∧
      Frame (cycles8 (lockable s) .write l (s.reg8 r) ++ cycles8 (lockable s) .read l (s.get8 l)) s t := by
  let u := after (locked s) (reads8 (locked s) l)
  have written : Written8 s (u.put8 l (s.reg8 r)) l (s.reg8 r) :=
    (written8_put8 (s := u) hwf l _).of_same rfl rfl rfl
  have frame := (frame_after (locked s) (reads8 (locked s) l)).trans (frame_put8 u l (s.reg8 r))
  rw [reads8_locked] at frame
  obtain ⟨sp, bp, si, di⟩ := set8_pointers (u.put8 l (s.reg8 r)).regs r (s.get8 l)
  obtain ⟨sp', bp', si', di'⟩ := written.words
  exact ⟨reg8_setReg8_same _ r _, written.value.setReg8 fun hl => congrArg s.get8 hl,
    fun q hq hl => (reg8_setReg8_other _ hq _).trans (written.bytes q hl),
    ⟨sp.trans sp', bp.trans bp', si.trans si', di.trans di'⟩, written.memory, State.put8_flags u l _,
    frame_unlocked (frame.trans (frame_setReg8 _ r _))⟩

theorem exchanged16_exchanges {s : State} (hwf : s.mem.wf = true) (l : Loc16) (r : Reg16) :
    let t := exchanged16 s l r
    t.reg16 r = s.get16 l ∧ Holds16 t l (s.reg16 r) ∧ (∀ q, q ≠ r → l ≠ .reg q → t.reg16 q = s.reg16 q) ∧
      (∀ a, ¬ covers16 s l a → t.memoryByte a = s.memoryByte a) ∧ t.flags = s.flags ∧
      Frame (cycles16 (lockable s) .write l (s.reg16 r) ++ cycles16 (lockable s) .read l (s.get16 l)) s t := by
  let u := after (locked s) (reads16 (locked s) l)
  have written : Written16 s (u.put16 l (s.reg16 r)) l (s.reg16 r) :=
    (written16_put16 (s := u) hwf l _).of_same rfl rfl rfl
  have frame := (frame_after (locked s) (reads16 (locked s) l)).trans (frame_put16 u l (s.reg16 r))
  rw [reads16_locked] at frame
  exact ⟨reg16_setReg16_same _ r _, written.value.setReg16 fun hl => congrArg s.get16 hl,
    fun q hq hl => (regsKeptBut_setReg16 _ r _ q hq).trans (written.words q hl), written.memory,
    State.put16_flags u l _, frame_unlocked (frame.trans (frame_setReg16 _ r _))⟩

/-- XCHG of AX and another register (R150). -/
theorem swapsAx_of_exec {s : State} {i : Instr} {r : Reg16} (hr : r ≠ .ax) (he : exec i s = exchangeAx r s) :
    SwapsAx s i r := by
  refine ⟨_, he, ?ax, reg16_setReg16_same _ r _, ?others, rfl, fun _ => rfl,
    (frame_setReg16 s .ax _).trans (frame_setReg16 _ r _)⟩
  case ax => exact (regsKeptBut_setReg16 _ r _ .ax hr.symm).trans (reg16_setReg16_same s .ax _)
  case others => exact fun q hax hq => (regsKeptBut_setReg16 _ r _ q hq).trans (regsKeptBut_setReg16 s .ax _ q hax)

/-! ## The stack (R160 to R167) -/

/-- A push after the bus cycles that read its operand. -/
theorem pushes_of_exec {s : State} {i : Instr} {cs : List BusCycle} {v : Word} (hwf : s.mem.wf = true)
    (he : exec i s = .next ((after s cs).push v)) : Pushes s i v cs := by
  obtain ⟨sp, regs, word, memory, flags⟩ := pushed_push (s := after s cs) hwf v
  exact ⟨_, he, ⟨sp, regs, word, memory, flags⟩, (frame_after s cs).trans (frame_push _ v)⟩

/-- The push of the flag register is a push and the draw of its free bits (R170). -/
theorem pushed_pushFlags {s : State} (hwf : s.mem.wf = true) : Pushed s s.pushFlags (s.flags.image (s.drawWord 0)) := by
  obtain ⟨sp, regs, word, memory, flags⟩ := pushed_push hwf (s.flags.image (s.drawWord 0))
  exact ⟨sp, regs, word, memory, flags⟩

/-- What was pushed and popped again leaves every register as it was: SP - 2 + 2 is SP. -/
theorem Pushed.regsKept_popped {s t : State} {v : Word} (h : Pushed s t v) : RegsKept s t.popped := by
  intro r
  by_cases hr : r = .sp
  · subst hr
    exact (congrArg (· + 2) h.sp).trans (BitVec.sub_add_cancel _ _)
  · exact (regsKeptBut_setReg16 _ .sp _ r hr).trans (h.regs r hr)

/-- A register but SP is pushed as it is (R162). -/
theorem pushed16_of_ne {r : Reg16} (h : r ≠ .sp) (s : State) : s.pushed16 r = s.reg16 r := if_neg h

/-- An operand but SP is pushed as it was read (R166). -/
theorem pushedRm_of_ne {m : Rm16} (h : m ≠ .reg .sp) (s : State) : s.pushedRm m = s.get16 (s.loc16 m) := by
  cases m with
  | reg r => exact pushed16_of_ne (fun e => h (congrArg _ e)) s
  | mem m => rfl

/-- The place of an operand is the same after the stack was popped: no base sum uses SP (R109). -/
theorem loc16_popped (s : State) (m : Rm16) : s.popped.loc16 m = s.loc16 m := by
  cases m with
  | reg r => rfl
  | mem m => cases m <;> rfl

theorem pops_of_exec {s : State} {i : Instr} {l : Loc16} (hwf : s.mem.wf = true)
    (he : exec i s = .next (s.popped.put16 l s.top)) : Pops s i l := by
  obtain ⟨value, words, memory⟩ := written16_put16 (s := s.popped) hwf l s.top
  have frame := (frame_popped s).trans (frame_put16 s.popped l s.top)
  refine ⟨_, he, value, words .sp, ?regs, ?memory, State.put16_flags _ l _, frame⟩
  case regs => exact fun q hl hq => (words q hl).trans (Regs.get16_set16_other _ _ hq)
  case memory => exact fun a ha => memory a fun h => ha ((covers16_congr (s := s) rfl l a).1 h)

/-! ## The flag register (R154, R155, R170, R171) -/

/-- The nine flags loaded from a word are its bits (R171). -/
theorem flagBits_ofImage (w : Word) : FlagBits w (Flags.ofImage w) := ⟨rfl, rfl, rfl, rfl, rfl, rfl, rfl, rfl, rfl⟩

/-- The flag register read as a word has the nine flags at their bits, whatever the free bits are (R32, R170). -/
theorem flagBits_image (f : Flags) (free : Word) : FlagBits (f.image free) f := by
  have h := flagBits_ofImage (f.image free)
  rwa [ofImage_image] at h

theorem getLsbD_lowByte (w : Word) {k : Nat} (hk : k < 8) : (lowByte w).getLsbD k = w.getLsbD k := by
  simp [lowByte, hk]

/-! ## Ports (R168, R169) -/

theorem portCycles8_eq (s : State) (d : Direction) (p : Word) (v : Byte) : s.portCycles8 d p v = [portByte s d p v] := by
  rw [State.portCycles8, lockOutput_eq_lockOn, portByte]

/-- A word at an even port: one cycle (R81). -/
theorem portCycles16_even (s : State) (d : Direction) {p : Word} (hp : p.toNat % 2 = 0) (v : Word) :
    s.portCycles16 d p v = [portWord s d p v] := by
  rw [State.portCycles16, if_neg (by rw [getLsbD_zero_iff]; omega), lockOutput_eq_lockOn, portWord]

/-- A word at an odd port: two cycles, low byte first (R81). -/
theorem portCycles16_odd (s : State) (d : Direction) {p : Word} (hp : p.toNat % 2 = 1) (v : Word) :
    s.portCycles16 d p v = [portByte s d (p + 1) (highByte v), portByte s d p (lowByte v)] := by
  rw [State.portCycles16, if_pos ((getLsbD_zero_iff p).2 hp), portCycles8_eq, portCycles8_eq]
  rfl

theorem inputs8_of_exec {s : State} {i : Instr} {p : Word} (he : exec i s = .next (inByte p s)) : Inputs8 s i p := by
  refine ⟨_, he, ?bus, ?high, regsKeptBut_setReg8_ax _ (.inl rfl) _, rfl, fun _ => rfl, ⟨rfl, rfl, rfl, rfl⟩,
    ⟨rfl, rfl, rfl, rfl, rfl, rfl, rfl, rfl, rfl⟩, rfl, rfl⟩
  case bus =>
    have value : (inByte p s).reg8 .al = s.portIn8 p := Regs.get8_set8_same _ .al _
    rw [value, inByte, State.setReg8_bus, State.notePort8_bus, portCycles8_eq, List.singleton_append]
  case high => exact reg8_setReg8_other (s.notePort8 p) (r := .al) (q := .ah) (by decide) _

theorem inputs16_of_exec {s : State} {i : Instr} {p : Word} (he : exec i s = inWord p s) : Inputs16 s i p := by
  refine ⟨fun hp => he.trans (if_pos hp), fun hp => ⟨_, he.trans (if_neg hp), ?even, ?odd, regsKeptBut_setReg16 _ _ _, rfl,
    fun _ => rfl, ⟨rfl, rfl, rfl, rfl⟩, ⟨rfl, rfl, rfl, rfl, rfl, rfl, rfl, rfl, rfl⟩, rfl, rfl⟩⟩
  case even =>
    intro heven
    rw [State.setReg16_bus, State.notePort16_bus, portCycles16_even s _ heven, List.singleton_append]
    rfl
  case odd =>
    intro hodd
    rw [State.setReg16_bus, State.notePort16_bus, portCycles16_odd s _ hodd]
    rfl

theorem outputs8_of_exec {s : State} {i : Instr} {p : Word} (he : exec i s = .next (s.portOut8 p (s.reg8 .al))) :
    Outputs8 s i p := by
  rw [Outputs8, he, State.portOut8, State.onBus, portCycles8_eq, List.singleton_append]

theorem outputs16_of_exec {s : State} {i : Instr} {p : Word} (he : exec i s = outWord p s) : Outputs16 s i p := by
  refine ⟨fun hp => he.trans (if_pos hp), fun hp heven => he.trans ((if_neg hp).trans ?_),
    fun hp hodd => he.trans ((if_neg hp).trans ?_)⟩
  · rw [State.portOut16, State.onBus, portCycles16_even s _ heven, List.singleton_append]
  · rw [State.portOut16, State.onBus, portCycles16_odd s _ hodd]
    rfl

end Sys2Proof.Spec
end

section
/-!
The statements about data transfer, settled: MOV, XCHG, the loads of addresses, the flag register, the stack, and the ports.
-/
namespace Sys2Proof.Proofs
open Sys2Proof.Machine Sys2Proof.Spec

/-- Settles O33: the pushed word has the flags at their bits, and loading them from it gives the flags back. -/
theorem flagImage : Obligations.FlagImage := by
  intro s hwf
  refine ⟨?pushf, s.popped.setFlags (Flags.ofImage s.top), rfl, flagBits_ofImage _, rfl,
    fun r hr => Regs.get16_set16_other _ _ hr, fun _ => rfl, (frame_popped s).trans (frame_setFlags _ _)⟩
  case pushf =>
    have pushed : Pushed s s.pushFlags (s.flags.image (s.drawWord 0)) := pushed_pushFlags hwf
    refine ⟨s.pushFlags, _, rfl, pushed, flagBits_image _ _, (frame_push s _).trans (frame_drawn _ 1),
      fun hplain => ⟨_, rfl, ?restored, pushed.regsKept_popped⟩⟩
    case restored =>
      have top_eq : s.pushFlags.top = s.flags.image (s.drawWord 0) := readWord_of_storedWord hplain pushed.word
      exact (congrArg Flags.ofImage top_eq).trans (ofImage_image _ _)

/-- Settles O25: each form writes one place, after the read of its memory operand where it has one. -/
theorem moveForms : Obligations.MoveForms := by
  intro s hwf
  exact ⟨fun _ _ => moves8_of_store hwf rfl, fun _ _ => moves16_of_store hwf rfl,
    fun r _ => moves8_of_load (l := .reg r) hwf rfl, fun r _ => moves16_of_load (l := .reg r) hwf rfl,
    fun _ _ => moves8_of_store hwf rfl, fun _ _ => moves16_of_store hwf rfl,
    fun r _ => moves8_of_store (l := .reg r) hwf rfl, fun r _ => moves16_of_store (l := .reg r) hwf rfl,
    fun a => moves8_of_load (l := .reg .al) (p := .mem (sourceSeg s) a) hwf rfl,
    fun a => moves16_of_load (l := .reg .ax) (p := .mem (sourceSeg s) a) hwf rfl,
    fun a => moves8_of_store (l := .mem (sourceSeg s) a) hwf rfl,
    fun a => moves16_of_store (l := .mem (sourceSeg s) a) hwf rfl⟩

/-- Settles O26: a store of the segment register, or the operand read and the segment register loaded. -/
theorem segmentMoves : Obligations.SegmentMoves :=
  fun _ hwf => ⟨fun _ _ => moves16_of_store hwf rfl,
    fun _ => ⟨loadsSegment_of_exec rfl, loadsSegment_of_exec rfl, loadsSegment_of_exec rfl⟩⟩

/-- Settles O27: the place and the register are exchanged under the lock; the forms of AX write two registers. -/
theorem exchangeForms : Obligations.ExchangeForms := by
  intro s hwf
  exact ⟨fun r m => ⟨_, exec_xchgR8Rm8 s r m, exchanged8_exchanges hwf _ r⟩,
    fun r m => ⟨_, exec_xchgR16Rm16 s r m, exchanged16_exchanges hwf _ r⟩,
    ⟨swapsAx_of_exec (by decide) rfl, swapsAx_of_exec (by decide) rfl, swapsAx_of_exec (by decide) rfl,
      swapsAx_of_exec (by decide) rfl, swapsAx_of_exec (by decide) rfl, swapsAx_of_exec (by decide) rfl,
      swapsAx_of_exec (by decide) rfl⟩, rfl⟩

/-- Settles O28: each word or byte is read by its bus cycles, then the registers are written. -/
theorem addressLoads : Obligations.AddressLoads := by
  intro s
  refine ⟨fun r m => ⟨_, rfl, Regs.get16_set16_same _ r _, regsKeptBut_setReg16 s r _, rfl, fun _ => rfl,
    frame_setReg16 s r _⟩, fun r m => ⟨loadsFar_of_exec rfl, loadsFar_of_exec rfl⟩,
    fun seg off => ⟨secondSegment_inside, (secondSegment_cases seg off).imp_right And.right⟩, ?xlat⟩
  case xlat =>
    let l : Loc8 := .mem (sourceSeg s) (s.regs.bx + (s.reg8 .al).setWidth 16)
    have he : exec .xlat s = .next ((s.noteGet8 l).setReg8 .al (s.get8 l)) := rfl
    rw [noteGet8_eq_after] at he
    exact ⟨_, he, reg8_setReg8_same _ .al _, reg8_setReg8_other (after s (reads8 s l)) (q := .ah) (by decide) _,
      regsKeptBut_setReg8_ax (after s (reads8 s l)) (.inl rfl) _, rfl, fun _ => rfl,
      (frame_after s _).trans (frame_setReg8 _ .al _)⟩

/-- Settles O29: the bits of the flag register read as a word, and the five fields that SAHF loads. -/
theorem flagByte : Obligations.FlagByte := by
  intro s
  refine ⟨?lahf, _, rfl, rfl, fun _ => rfl, fun _ => rfl, frame_setFlags s _⟩
  case lahf =>
    let image := s.flags.image (s.drawWord 0)
    let t := (s.setReg8 .ah (lowByte image)).drawn 1
    have bit : ∀ k < 8, (t.reg8 .ah).getLsbD k = image.getLsbD k := fun k hk =>
      (congrArg (·.getLsbD k) (Regs.get8_set8_same s.regs .ah _)).trans (getLsbD_lowByte _ hk)
    obtain ⟨cf, pf, af, zf, sf, -⟩ := flagBits_image s.flags (s.drawWord 0)
    exact ⟨t, rfl, (bit 7 (by decide)).trans sf, (bit 6 (by decide)).trans zf, (bit 4 (by decide)).trans af,
      (bit 2 (by decide)).trans pf, (bit 0 (by decide)).trans cf,
      reg8_setReg8_other s (q := .al) (by decide) _, regsKeptBut_setReg8_ax s (.inr rfl) _, rfl, fun _ => rfl,
      (frame_setReg8 s .ah _).trans (frame_drawn _ 1)⟩

/-- Settles O30: the operand read, then pushed; PUSH SP pushes the lowered SP in both encodings (R162). -/
theorem pushForms : Obligations.PushForms := by
  intro s hwf
  refine ⟨?reg, pushes_of_exec hwf rfl, ?rm, pushes_of_exec hwf rfl, pushes_of_exec hwf rfl, pushes_of_exec hwf rfl,
    pushes_of_exec hwf rfl, pushes_of_exec hwf rfl⟩
  case reg =>
    intro r hr
    rw [← pushed16_of_ne hr]
    exact pushes_of_exec hwf rfl
  case rm =>
    intro m hm
    rw [← pushedRm_of_ne hm]
    refine pushes_of_exec hwf ?_
    rw [← noteGet16_eq_after]
    rfl

/-- Settles O31: the top of the stack read and SP raised, then the destination written. -/
theorem popForms : Obligations.PopForms := by
  intro s hwf
  refine ⟨fun r => pops_of_exec (l := .reg r) hwf rfl, fun m => pops_of_exec hwf ?_, popsSegment_of_exec rfl,
    popsSegment_of_exec rfl, popsSegment_of_exec rfl⟩
  rw [← loc16_popped]
  rfl

/-- Settles O34: each form is one of the four operations of the ports. -/
theorem portTransfers : Obligations.PortTransfers :=
  fun _ => ⟨fun _ => ⟨inputs8_of_exec rfl, inputs16_of_exec rfl, outputs8_of_exec rfl, outputs16_of_exec rfl⟩,
    inputs8_of_exec rfl, inputs16_of_exec rfl, outputs8_of_exec rfl, outputs16_of_exec rfl⟩

end Sys2Proof.Proofs
end

section
/-!
SUPPORT. The flags of the arithmetic results as numbers (R35 to R45): ZF, SF and PF of a result, and CF, AF and OF of a sum
and of a difference, at any operand width.
-/
namespace Sys2Proof.Spec
open Sys2Proof.Machine

/-! ## Results -/

/-- The number of ones of the low byte, counted bit by bit or in the list of its bits. -/
theorem onesOf_eq_length {w : Nat} (v : BitVec w) :
    onesOf (v.setWidth 8) = ((List.range 8).filter fun k => v.getLsbD k).length := by
  have toNat_eq : ∀ b : Bool, b.toNat = if b = true then 1 else 0 := by decide
  have range_eq : List.range 8 = [0, 1, 2, 3, 4, 5, 6, 7] := rfl
  rw [← List.countP_eq_length_filter, range_eq]
  simp only [onesOf, BitVec.getLsbD_setWidth, List.countP_cons, List.countP_nil, toNat_eq, Nat.reduceLT, decide_true,
    Bool.true_and]
  omega

/-- PF is PF_EVEN for an even number of ones in the low byte, its opposite for an odd one (R35, R7). -/
theorem parity_iff {w : Nat} (pfEven : Bool) (v : BitVec w) :
    parity pfEven (v.setWidth 8) = true ↔ (evenOnes v ↔ pfEven = true) := by
  unfold parity evenOnes
  rw [onesOf_eq_length]
  split
  · next h => simp [h]
  · next h => simp [h]

/-- ZF, SF and PF as the model computes them (R35, R38, R39). -/
theorem resultFlags_resultFlags {w : Nat} (s : State) (v : BitVec w) : ResultFlags s v (s.resultFlags v) := by
  refine ⟨decide_eq_true_iff.trans ?zero, ?sign, parity_iff _ v⟩
  case zero => simp [BitVec.toNat_eq]
  case sign => exact (Bool.eq_iff_iff.1 (BitVec.msb_eq_decide v)).trans decide_eq_true_iff

/-! ## Numbers of a width -/

section
variable {w : Nat} (hw : 0 < w)
include hw

theorem two_pow_eq_double : 2 ^ w = 2 * 2 ^ (w - 1) := by
  rw [← Nat.pow_succ', Nat.succ_eq_add_one, Nat.sub_add_cancel hw]

/-- A carry is the number 0 or 1. -/
theorem toNat_carryIn (c : Bool) : (carryIn w c).toNat = c.toNat := by
  have hc : c.toNat < 2 ^ w := (Bool.toNat_le c).trans_lt (Nat.one_lt_two_pow hw.ne')
  rw [carryIn, BitVec.toNat_ofNat, Nat.mod_eq_of_lt hc]

end

theorem toInt_carryIn (w : Nat) (c : Bool) : (carryIn w c).toInt = (c.toNat : Int).bmod (2 ^ w) :=
  BitVec.toInt_ofNat _

@[simp] theorem carryIn_false (w : Nat) : carryIn w false = 0#w := rfl

/-- The sum modulo 2^N (R182, R183). -/
theorem toNat_sum {w : Nat} (a b : BitVec w) (c : Bool) :
    (a + b + carryIn w c).toNat = (a.toNat + b.toNat + c.toNat) % 2 ^ w := by
  simp [carryIn, BitVec.toNat_add]

/-- The difference modulo 2^N (R185, R186). -/
theorem toNat_difference {w : Nat} (hw : 0 < w) (a b : BitVec w) (c : Bool) :
    (a - b - carryIn w c).toNat = (2 ^ w + a.toNat - b.toNat - c.toNat) % 2 ^ w := by
  have hc := Bool.toNat_le c
  have hb := b.isLt
  rw [BitVec.toNat_sub, BitVec.toNat_sub, toNat_carryIn hw, Nat.add_mod_mod]
  have e : 2 ^ w - c.toNat + (2 ^ w - b.toNat + a.toNat) = 2 ^ w + (2 ^ w + a.toNat - b.toNat - c.toNat) := by omega
  rw [e, Nat.add_mod_left]

/-! ## Sums and differences -/

/-- The signed value of a sum, before it is cut to the width. -/
theorem toInt_sum {w : Nat} (a b : BitVec w) (c : Bool) :
    (a + b + carryIn w c).toInt = (a.toInt + b.toInt + c.toNat).bmod (2 ^ w) := by
  simp [BitVec.toInt_add, toInt_carryIn]

/-- The signed value of a difference, before it is cut to the width. -/
theorem toInt_difference {w : Nat} (a b : BitVec w) (c : Bool) :
    (a - b - carryIn w c).toInt = (a.toInt - b.toInt - c.toNat).bmod (2 ^ w) := by
  simp [BitVec.toInt_sub, toInt_carryIn]

/-- A number in the range of a width stays as it is when it is cut to the width. -/
theorem bmod_of_inRange {w : Nat} (hw : 0 < w) {x : Int} (hlo : -(2 ^ (w - 1)) ≤ x) (hhi : x < 2 ^ (w - 1)) :
    x.bmod (2 ^ w) = x :=
  (BitVec.toInt_ofInt x).symm.trans (BitVec.toInt_ofInt_eq_self hw hlo hhi)

/-- A number not far outside the range is brought into it by one turn. -/
theorem bmod_cases {w : Nat} (hw : 0 < w) {x : Int} (hlo : -(3 * 2 ^ (w - 1)) ≤ x) (hhi : x < 3 * 2 ^ (w - 1)) :
    (-(2 ^ (w - 1)) ≤ x ∧ x < 2 ^ (w - 1) ∧ x.bmod (2 ^ w) = x) ∨
      (2 ^ (w - 1) ≤ x ∧ x.bmod (2 ^ w) = x - 2 * 2 ^ (w - 1)) ∨
      (x < -(2 ^ (w - 1)) ∧ x.bmod (2 ^ w) = x + 2 * 2 ^ (w - 1)) := by
  have turn : ((2 ^ w : Nat) : Int) = 2 * 2 ^ (w - 1) := by exact_mod_cast two_pow_eq_double hw
  by_cases above : 2 ^ (w - 1) ≤ x
  · refine .inr (.inl ⟨above, ?_⟩)
    rw [← Int.sub_bmod_right, turn, bmod_of_inRange hw (by omega) (by omega)]
  · by_cases below : x < -(2 ^ (w - 1))
    · refine .inr (.inr ⟨below, ?_⟩)
      rw [← Int.add_bmod_right, turn, bmod_of_inRange hw (by omega) (by omega)]
    · exact .inl ⟨by omega, by omega, bmod_of_inRange hw (by omega) (by omega)⟩

/-- OF of a sum: operands of one sign and a result of the other say that the signed sum is out of range (R40, R44). -/
theorem of_sum_iff {w : Nat} (hw : 0 < w) (a b : BitVec w) (c : Bool) :
    ((a.msb == b.msb) && ((a + b + carryIn w c).msb != a.msb)) = true ↔
      OutOfRange w (a.toInt + b.toInt + c.toNat) := by
  have ha := a.le_toInt; have hb := b.le_toInt
  have ha' := a.toInt_lt; have hb' := b.toInt_lt
  have hc := Bool.toNat_le c
  simp only [BitVec.msb_eq_toInt, toInt_sum, OutOfRange, Bool.and_eq_true, beq_iff_eq, bne_iff_ne, ne_eq,
    decide_eq_decide]
  rcases bmod_cases hw (x := a.toInt + b.toInt + c.toNat) (by omega) (by omega) with h | h | h <;> omega

/-- OF of a difference: operands of two signs and a result not of the first's (R40, R45). -/
theorem of_difference_iff {w : Nat} (hw : 0 < w) (a b : BitVec w) (c : Bool) :
    ((a.msb != b.msb) && ((a - b - carryIn w c).msb != a.msb)) = true ↔
      OutOfRange w (a.toInt - b.toInt - c.toNat) := by
  have ha := a.le_toInt; have hb := b.le_toInt
  have ha' := a.toInt_lt; have hb' := b.toInt_lt
  have hc := Bool.toNat_le c
  simp only [BitVec.msb_eq_toInt, toInt_difference, OutOfRange, Bool.and_eq_true, bne_iff_ne, ne_eq, decide_eq_decide]
  rcases bmod_cases hw (x := a.toInt - b.toInt - c.toNat) (by omega) (by omega) with h | h | h <;> omega

/-- The flags of an addition but CF (R44). -/
theorem sumFlags_addFlags {w : Nat} (hw : 0 < w) (s : State) (a b : BitVec w) (c : Bool) :
    SumFlags s a b c.toNat (a + b + carryIn w c) (addFlags s a b c) :=
  ⟨of_sum_iff hw a b c, decide_eq_true_iff, resultFlags_resultFlags s _, rfl, rfl, rfl⟩

/-- CF of an addition: the carry out of the top bit (R44). -/
theorem addFlags_cf_iff {w : Nat} (s : State) (a b : BitVec w) (c : Bool) :
    (addFlags s a b c).cf = true ↔ 2 ^ w ≤ a.toNat + b.toNat + c.toNat := decide_eq_true_iff

/-- The flags of a subtraction but CF (R45). -/
theorem differenceFlags_subFlags {w : Nat} (hw : 0 < w) (s : State) (a b : BitVec w) (c : Bool) :
    DifferenceFlags s a b c.toNat (a - b - carryIn w c) (subFlags s a b c) :=
  ⟨of_difference_iff hw a b c, decide_eq_true_iff, resultFlags_resultFlags s _, rfl, rfl, rfl⟩

/-- CF of a subtraction: the borrow (R45). -/
theorem subFlags_cf_iff {w : Nat} (s : State) (a b : BitVec w) (c : Bool) :
    (subFlags s a b c).cf = true ↔ a.toNat < b.toNat + c.toNat := decide_eq_true_iff

/-! ## The change of sign (R188) -/

/-- The opposite modulo 2^N (R188). -/
theorem toNat_zero_sub {w : Nat} (a : BitVec w) : (0 - a).toNat = (2 ^ w - a.toNat) % 2 ^ w := by
  rw [zero_sub, BitVec.toNat_neg]

/-- Only the least number has no opposite (R188). -/
theorem outOfRange_neg_iff {w : Nat} (hw : 0 < w) (a : BitVec w) :
    OutOfRange w (0 - a.toInt) ↔ a.toNat = 2 ^ (w - 1) := by
  have hcast : ((2 ^ (w - 1) : Nat) : Int) = 2 ^ (w - 1) := by norm_cast
  have hlt := a.isLt
  have value := BitVec.toInt_eq_toNat_cond a
  rw [two_pow_eq_double hw] at value hlt
  rw [OutOfRange, ← hcast]
  generalize 2 ^ (w - 1) = N at *
  split at value <;> omega

/-- The flags of a subtraction from 0, in the terms of R188. -/
theorem subFlags_zero {w : Nat} (hw : 0 < w) (s : State) (a : BitVec w) :
    ((subFlags s 0 a false).cf = true ↔ a.toNat ≠ 0) ∧ ((subFlags s 0 a false).of = true ↔ a.toNat = 2 ^ (w - 1)) ∧
      ((subFlags s 0 a false).af = true ↔ a.toNat % 16 ≠ 0) ∧ ResultFlags s (0 - a) (subFlags s 0 a false) ∧
      ControlFlags s.flags (subFlags s 0 a false) := by
  have cf := subFlags_cf_iff s 0 a false
  obtain ⟨of, af, result, control⟩ := differenceFlags_subFlags hw s 0 a false
  simp only [carryIn_false, BitVec.sub_zero, BitVec.toInt_zero, BitVec.toNat_zero, Nat.zero_mod, Bool.toNat_false,
    Nat.add_zero, Nat.pos_iff_ne_zero, Int.natCast_zero, Int.sub_zero, BitVec.ofNat_eq_ofNat] at cf of af result ⊢
  exact ⟨cf, of.trans (outOfRange_neg_iff hw a), af, result, control⟩

end Sys2Proof.Spec
end

section
/-!
SUPPORT. The shapes of the two-operand and one-operand instructions: an operation that writes flags alone, run at a place; the
forms of a two-operand instruction, each the same operation at its places; and addition and subtraction in these shapes.
-/
namespace Sys2Proof.Spec
open Sys2Proof.Machine

/-! ## Operations that write flags alone -/

/-- Flags and free values are no part of the registers, of memory and of the frame. -/
theorem kept_of_flagsAlone {u t : State} (h : t = { u with flags := t.flags, draws := t.draws }) :
    t.regs = u.regs ∧ t.mem = u.mem ∧ Frame [] u t := by
  rw [h]
  simp [Frame, Segs, Inner]

/-- The bus cycles of reading a byte place depend on what it holds, not on the cycles made before. -/
theorem reads8_after {s : State} {src : List BusCycle} {l : Loc8} (h : (after s src).get8 l = s.get8 l) :
    reads8 (after s src) l = reads8 s l :=
  congrArg (cycles8 (lockOn s) .read l) h

theorem reads16_after {s : State} {src : List BusCycle} {l : Loc16} (h : (after s src).get16 l = s.get16 l) :
    reads16 (after s src) l = reads16 s l :=
  congrArg (cycles16 (lockOn s) .read l) h

/-- The second operand read, then the place of the first: the bus cycles of both, and nothing else. -/
theorem noteGet8_after {s : State} {src : List BusCycle} {l : Loc8} (h : (after s src).get8 l = s.get8 l) :
    (after s src).noteGet8 l = after s (reads8 s l ++ src) := by
  rw [noteGet8_eq_after, reads8_after h, after, after, after, List.append_assoc]

theorem noteGet16_after {s : State} {src : List BusCycle} {l : Loc16} (h : (after s src).get16 l = s.get16 l) :
    (after s src).noteGet16 l = after s (reads16 s l ++ src) := by
  rw [noteGet16_eq_after, reads16_after h, after, after, after, List.append_assoc]

/-- An instruction that makes bus cycles, writes flags alone, and then writes the byte. -/
theorem runs8_of_flagsAlone {s t : State} {i : Instr} {cs : List BusCycle} {l : Loc8} {v : Byte} {R : Byte → Prop}
    {F : Byte → Flags → Prop} (hwf : s.mem.wf = true) (he : exec i s = .next (t.put8 l v))
    (ht : t = { after s cs with flags := t.flags, draws := t.draws }) (hR : R v) (hF : F v t.flags) :
    Runs8 s i cs l R F := by
  obtain ⟨regs, mem, frame⟩ := kept_of_flagsAlone ht
  exact runs8_of_put8 hwf he regs mem ((frame_after s cs).trans frame) hR hF

theorem runs16_of_flagsAlone {s t : State} {i : Instr} {cs : List BusCycle} {l : Loc16} {v : Word} {R : Word → Prop}
    {F : Word → Flags → Prop} (hwf : s.mem.wf = true) (he : exec i s = .next (t.put16 l v))
    (ht : t = { after s cs with flags := t.flags, draws := t.draws }) (hR : R v) (hF : F v t.flags) :
    Runs16 s i cs l R F := by
  obtain ⟨regs, mem, frame⟩ := kept_of_flagsAlone ht
  exact runs16_of_put16 hwf he regs mem ((frame_after s cs).trans frame) hR hF

/-- A one-operand operation at a byte place (R74). -/
theorem runs8_of_unary8 {s : State} {i : Instr} {l : Loc8} {op : UnOp 8} {R : Byte → Prop} {F : Byte → Flags → Prop}
    (hwf : s.mem.wf = true) (hop : UnOp.FlagsAlone op) (he : exec i s = unary8 op l s)
    (hR : R (op (after s (reads8 s l)) (s.get8 l)).1)
    (hF : F (op (after s (reads8 s l)) (s.get8 l)).1 (op (after s (reads8 s l)) (s.get8 l)).2.flags) :
    Runs8 s i (reads8 s l) l R F := by
  rw [unary8_next, noteGet8_eq_after] at he
  exact runs8_of_flagsAlone hwf he (hop _ _) hR hF

theorem runs16_of_unary16 {s : State} {i : Instr} {l : Loc16} {op : UnOp 16} {R : Word → Prop} {F : Word → Flags → Prop}
    (hwf : s.mem.wf = true) (hop : UnOp.FlagsAlone op) (he : exec i s = unary16 op l s)
    (hR : R (op (after s (reads16 s l)) (s.get16 l)).1)
    (hF : F (op (after s (reads16 s l)) (s.get16 l)).1 (op (after s (reads16 s l)) (s.get16 l)).2.flags) :
    Runs16 s i (reads16 s l) l R F := by
  rw [unary16_next, noteGet16_eq_after] at he
  exact runs16_of_flagsAlone hwf he (hop _ _) hR hF

/-! ## The forms of a two-operand instruction (R121, R181) -/

/-- Every instruction that is `run` at a byte place, with an operand that the bus cycles `src` have read, is as `P` says. The
cycles leave the place as it was: there are none, or the place is a register. -/
def ByteShape (s : State) (run : Loc8 → Byte → State → Result) (P : Instr → Loc8 → Byte → List BusCycle → Prop) : Prop :=
  ∀ i l b src, exec i s = run l b (after s src) → (after s src).get8 l = s.get8 l → P i l b src

/-- The same at a word place. -/
def WordShape (s : State) (run : Loc16 → Word → State → Result) (P : Instr → Loc16 → Word → List BusCycle → Prop) : Prop :=
  ∀ i l b src, exec i s = run l b (after s src) → (after s src).get16 l = s.get16 l → P i l b src

section
variable {s : State} {run8 : Loc8 → Byte → State → Result} {run16 : Loc16 → Word → State → Result}
  {P : Instr → Loc8 → Byte → List BusCycle → Prop} {Q : Instr → Loc16 → Word → List BusCycle → Prop}

/-- The six forms are one meaning at six pairs of places, if the dispatch says so of each. -/
theorem sixForms_of_exec {f1 : Rm8 → Reg8 → Instr} {f2 : Rm16 → Reg16 → Instr} {f3 : Reg8 → Rm8 → Instr}
    {f4 : Reg16 → Rm16 → Instr} {f5 : Byte → Instr} {f6 : Word → Instr} (hP : ByteShape s run8 P) (hQ : WordShape s run16 Q)
    (h1 : ∀ m r, exec (f1 m r) s = run8 (s.loc8 m) (s.reg8 r) s := by intros; rfl)
    (h2 : ∀ m r, exec (f2 m r) s = run16 (s.loc16 m) (s.reg16 r) s := by intros; rfl)
    (h3 : ∀ r m, exec (f3 r m) s = run8 (.reg r) (s.rm8 m) (s.noteRm8 m) := by intros; rfl)
    (h4 : ∀ r m, exec (f4 r m) s = run16 (.reg r) (s.rm16 m) (s.noteRm16 m) := by intros; rfl)
    (h5 : ∀ v, exec (f5 v) s = run8 (.reg .al) v s := by intros; rfl)
    (h6 : ∀ v, exec (f6 v) s = run16 (.reg .ax) v s := by intros; rfl) :
    SixForms s P Q f1 f2 f3 f4 f5 f6 := by
  refine ⟨fun m r => hP _ _ _ [] (h1 m r) rfl, fun m r => hQ _ _ _ [] (h2 m r) rfl, fun r m => hP _ _ _ _ ?byteRead rfl,
    fun r m => hQ _ _ _ _ ?wordRead rfl, fun v => hP _ _ _ [] (h5 v) rfl, fun v => hQ _ _ _ [] (h6 v) rfl⟩
  case byteRead =>
    rw [← noteGet8_eq_after]
    exact h3 r m
  case wordRead =>
    rw [← noteGet16_eq_after]
    exact h4 r m

theorem immediateForms_of_exec {f1 : Rm8 → Byte → Instr} {f2 : Rm16 → Word → Instr} (hP : ByteShape s run8 P)
    (hQ : WordShape s run16 Q) (h1 : ∀ m v, exec (f1 m v) s = run8 (s.loc8 m) v s := by intros; rfl)
    (h2 : ∀ m v, exec (f2 m v) s = run16 (s.loc16 m) v s := by intros; rfl) : ImmediateForms s P Q f1 f2 :=
  ⟨fun m v => hP _ _ _ [] (h1 m v) rfl, fun m v => hQ _ _ _ [] (h2 m v) rfl⟩

theorem shortForms_of_exec {f1 : Rm8 → Byte → Instr} {f2 : Rm16 → Byte → Instr} (hP : ByteShape s run8 P)
    (hQ : WordShape s run16 Q) (h1 : ∀ m v, exec (f1 m v) s = run8 (s.loc8 m) v s := by intros; rfl)
    (h2 : ∀ m v, exec (f2 m v) s = run16 (s.loc16 m) (sext16 v) s := by intros; rfl) : ShortForms s P Q f1 f2 :=
  ⟨fun m v => hP _ _ _ [] (h1 m v) rfl, fun m v => hQ _ _ _ [] (h2 m v) rfl⟩

end

/-- A two-operand operation at a byte place runs as `Runs8` says (R181, R74). -/
theorem runs8_of_binary8 {s : State} {i : Instr} {l : Loc8} {b : Byte} {src : List BusCycle} {op : BinOp 8}
    {R : Byte → Prop} {F : Byte → Flags → Prop} (hwf : s.mem.wf = true) (hop : BinOp.FlagsAlone op)
    (he : exec i s = binary8 op l b (after s src)) (hget : (after s src).get8 l = s.get8 l)
    (hR : R (op (after s (reads8 s l ++ src)) (s.get8 l) b).1)
    (hF : F (op (after s (reads8 s l ++ src)) (s.get8 l) b).1 (op (after s (reads8 s l ++ src)) (s.get8 l) b).2.flags) :
    Runs8 s i (reads8 s l ++ src) l R F := by
  rw [binary8_next, noteGet8_after hget, hget] at he
  exact runs8_of_flagsAlone hwf he (hop _ _ _) hR hF

theorem runs16_of_binary16 {s : State} {i : Instr} {l : Loc16} {b : Word} {src : List BusCycle} {op : BinOp 16}
    {R : Word → Prop} {F : Word → Flags → Prop} (hwf : s.mem.wf = true) (hop : BinOp.FlagsAlone op)
    (he : exec i s = binary16 op l b (after s src)) (hget : (after s src).get16 l = s.get16 l)
    (hR : R (op (after s (reads16 s l ++ src)) (s.get16 l) b).1)
    (hF : F (op (after s (reads16 s l ++ src)) (s.get16 l) b).1 (op (after s (reads16 s l ++ src)) (s.get16 l) b).2.flags) :
    Runs16 s i (reads16 s l ++ src) l R F := by
  rw [binary16_next, noteGet16_after hget, hget] at he
  exact runs16_of_flagsAlone hwf he (hop _ _ _) hR hF

/-- An operation that writes flags alone, its result dropped (R189, R224). -/
theorem runsFlags_of_flagsAlone {s t : State} {i : Instr} {cs : List BusCycle} {F : Flags → Prop}
    (he : exec i s = .next t) (ht : t = { after s cs with flags := t.flags, draws := t.draws }) (hF : F t.flags) :
    RunsFlags s i cs F := by
  obtain ⟨regs, mem, frame⟩ := kept_of_flagsAlone ht
  exact ⟨t, he, hF, fun r => congrArg (·.get16 r) regs, fun a => congrArg (·.read a.toNat) mem,
    (frame_after s cs).trans frame⟩

theorem runsFlags_of_flags8 {s : State} {i : Instr} {l : Loc8} {b : Byte} {src : List BusCycle} {op : BinOp 8}
    {F : Flags → Prop} (hop : BinOp.FlagsAlone op) (he : exec i s = flags8 op l b (after s src))
    (hget : (after s src).get8 l = s.get8 l) (hF : F (op (after s (reads8 s l ++ src)) (s.get8 l) b).2.flags) :
    RunsFlags s i (reads8 s l ++ src) F := by
  rw [flags8_next, noteGet8_after hget, hget] at he
  exact runsFlags_of_flagsAlone he (hop _ _ _) hF

theorem runsFlags_of_flags16 {s : State} {i : Instr} {l : Loc16} {b : Word} {src : List BusCycle} {op : BinOp 16}
    {F : Flags → Prop} (hop : BinOp.FlagsAlone op) (he : exec i s = flags16 op l b (after s src))
    (hget : (after s src).get16 l = s.get16 l) (hF : F (op (after s (reads16 s l ++ src)) (s.get16 l) b).2.flags) :
    RunsFlags s i (reads16 s l ++ src) F := by
  rw [flags16_next, noteGet16_after hget, hget] at he
  exact runsFlags_of_flagsAlone he (hop _ _ _) hF

/-! ## Addition (R182, R183) -/

/-- From `s`, whatever bus cycles were made, `op` adds its operands and the carry `c` and writes the flags of the sum. -/
def AddsWith {w : Nat} (s : State) (c : Bool) (op : BinOp w) : Prop :=
  ∀ cs a b, op (after s cs) a b = (a + b + carryIn w c, (after s cs).setFlags (addFlags s a b c))

theorem addOp_addsWith (s : State) (w : Nat) : AddsWith s false (addOp (w := w)) := by
  intro cs a b
  rw [carryIn_false, BitVec.add_zero]
  rfl

theorem adcOp_addsWith (s : State) (w : Nat) : AddsWith s s.flags.cf (adcOp (w := w)) := fun _ _ _ => rfl

theorem adds8_of_addsWith {s : State} {c : Bool} {op : BinOp 8} (hwf : s.mem.wf = true) (hop : BinOp.FlagsAlone op)
    (h : AddsWith s c op) : ByteShape s (binary8 op) (Adds8 s c) := by
  intro i l b src he hget
  refine runs8_of_binary8 hwf hop he hget ?value ?flags <;> rw [h]
  · exact toNat_sum (s.get8 l) b c
  · exact ⟨sumFlags_addFlags (by decide) s (s.get8 l) b c, addFlags_cf_iff s (s.get8 l) b c⟩

theorem adds16_of_addsWith {s : State} {c : Bool} {op : BinOp 16} (hwf : s.mem.wf = true) (hop : BinOp.FlagsAlone op)
    (h : AddsWith s c op) : WordShape s (binary16 op) (Adds16 s c) := by
  intro i l b src he hget
  refine runs16_of_binary16 hwf hop he hget ?value ?flags <;> rw [h]
  · exact toNat_sum (s.get16 l) b c
  · exact ⟨sumFlags_addFlags (by decide) s (s.get16 l) b c, addFlags_cf_iff s (s.get16 l) b c⟩

/-! ## Subtraction and comparison (R185, R186, R189) -/

/-- From `s`, whatever bus cycles were made, `op` subtracts its second operand and the borrow `c` from the first and writes the
flags of the difference. -/
def SubtractsWith {w : Nat} (s : State) (c : Bool) (op : BinOp w) : Prop :=
  ∀ cs a b, op (after s cs) a b = (a - b - carryIn w c, (after s cs).setFlags (subFlags s a b c))

theorem subOp_subtractsWith (s : State) (w : Nat) : SubtractsWith s false (subOp (w := w)) := by
  intro cs a b
  rw [carryIn_false, BitVec.sub_zero]
  rfl

theorem sbbOp_subtractsWith (s : State) (w : Nat) : SubtractsWith s s.flags.cf (sbbOp (w := w)) := fun _ _ _ => rfl

theorem subtracts8_of_subtractsWith {s : State} {c : Bool} {op : BinOp 8} (hwf : s.mem.wf = true)
    (hop : BinOp.FlagsAlone op) (h : SubtractsWith s c op) : ByteShape s (binary8 op) (Subtracts8 s c) := by
  intro i l b src he hget
  refine runs8_of_binary8 hwf hop he hget ?value ?flags <;> rw [h]
  · exact toNat_difference (by decide) (s.get8 l) b c
  · exact ⟨differenceFlags_subFlags (by decide) s (s.get8 l) b c, subFlags_cf_iff s (s.get8 l) b c⟩

theorem subtracts16_of_subtractsWith {s : State} {c : Bool} {op : BinOp 16} (hwf : s.mem.wf = true)
    (hop : BinOp.FlagsAlone op) (h : SubtractsWith s c op) : WordShape s (binary16 op) (Subtracts16 s c) := by
  intro i l b src he hget
  refine runs16_of_binary16 hwf hop he hget ?value ?flags <;> rw [h]
  · exact toNat_difference (by decide) (s.get16 l) b c
  · exact ⟨differenceFlags_subFlags (by decide) s (s.get16 l) b c, subFlags_cf_iff s (s.get16 l) b c⟩

theorem compares8_flags8 (s : State) : ByteShape s (flags8 subOp) (Compares8 s) := fun _ l b _ he hget =>
  runsFlags_of_flags8 (fun _ _ _ => rfl) he hget ⟨s.get8 l - b - carryIn 8 false, toNat_difference (by decide) _ b false,
    differenceFlags_subFlags (by decide) s _ b false, subFlags_cf_iff s _ b false⟩

theorem compares16_flags16 (s : State) : WordShape s (flags16 subOp) (Compares16 s) := fun _ l b _ he hget =>
  runsFlags_of_flags16 (fun _ _ _ => rfl) he hget ⟨s.get16 l - b - carryIn 16 false, toNat_difference (by decide) _ b false,
    differenceFlags_subFlags (by decide) s _ b false, subFlags_cf_iff s _ b false⟩

/-! ## One operand: plus one, minus one, the change of sign (R184, R187, R188) -/

theorem increments8_of_exec {s : State} {i : Instr} {l : Loc8} (hwf : s.mem.wf = true)
    (he : exec i s = unary8 incOp l s) : Increments8 s i l := by
  have sum := sumFlags_addFlags (by decide) s (s.get8 l) 1 false
  rw [carryIn_false, BitVec.add_zero] at sum
  exact runs8_of_unary8 hwf (fun _ _ => rfl) he (BitVec.toNat_add _ 1) ⟨sum, rfl⟩

theorem increments16_of_exec {s : State} {i : Instr} {l : Loc16} (hwf : s.mem.wf = true)
    (he : exec i s = unary16 incOp l s) : Increments16 s i l := by
  have sum := sumFlags_addFlags (by decide) s (s.get16 l) 1 false
  rw [carryIn_false, BitVec.add_zero] at sum
  exact runs16_of_unary16 hwf (fun _ _ => rfl) he (BitVec.toNat_add _ 1) ⟨sum, rfl⟩

theorem decrements8_of_exec {s : State} {i : Instr} {l : Loc8} (hwf : s.mem.wf = true)
    (he : exec i s = unary8 decOp l s) : Decrements8 s i l := by
  have value := toNat_difference (by decide) (s.get8 l) 1 false
  have difference := differenceFlags_subFlags (by decide) s (s.get8 l) 1 false
  rw [carryIn_false, BitVec.sub_zero] at value difference
  exact runs8_of_unary8 hwf (fun _ _ => rfl) he (value.trans (congrArg (fun n => (n - 1) % 2 ^ 8) (Nat.add_comm _ _)))
    ⟨difference, rfl⟩

theorem decrements16_of_exec {s : State} {i : Instr} {l : Loc16} (hwf : s.mem.wf = true)
    (he : exec i s = unary16 decOp l s) : Decrements16 s i l := by
  have value := toNat_difference (by decide) (s.get16 l) 1 false
  have difference := differenceFlags_subFlags (by decide) s (s.get16 l) 1 false
  rw [carryIn_false, BitVec.sub_zero] at value difference
  exact runs16_of_unary16 hwf (fun _ _ => rfl) he (value.trans (congrArg (fun n => (n - 1) % 2 ^ 16) (Nat.add_comm _ _)))
    ⟨difference, rfl⟩

end Sys2Proof.Spec
end

section
/-!
The statements about arithmetic, settled: addition, subtraction, comparison, change of sign.
-/
namespace Sys2Proof.Proofs
open Sys2Proof.Machine Sys2Proof.Spec

/-- Settles O7: each form is the sum at its places; the carry is 0 for ADD, and CF for ADC. -/
theorem addAndAdc : Obligations.AddAndAdc := by
  intro s hwf
  have add8 := adds8_of_addsWith hwf (fun _ _ _ => rfl) (addOp_addsWith s 8)
  have add16 := adds16_of_addsWith hwf (fun _ _ _ => rfl) (addOp_addsWith s 16)
  have adc8 := adds8_of_addsWith hwf (fun _ _ _ => rfl) (adcOp_addsWith s 8)
  have adc16 := adds16_of_addsWith hwf (fun _ _ _ => rfl) (adcOp_addsWith s 16)
  exact ⟨⟨sixForms_of_exec add8 add16, immediateForms_of_exec add8 add16, shortForms_of_exec add8 add16⟩,
    sixForms_of_exec adc8 adc16, immediateForms_of_exec adc8 adc16, shortForms_of_exec adc8 adc16⟩

/-- Settles O8: each form is the difference at its places; the borrow is 0 for SUB, and CF for SBB. -/
theorem subAndSbb : Obligations.SubAndSbb := by
  intro s hwf
  have sub8 := subtracts8_of_subtractsWith hwf (fun _ _ _ => rfl) (subOp_subtractsWith s 8)
  have sub16 := subtracts16_of_subtractsWith hwf (fun _ _ _ => rfl) (subOp_subtractsWith s 16)
  have sbb8 := subtracts8_of_subtractsWith hwf (fun _ _ _ => rfl) (sbbOp_subtractsWith s 8)
  have sbb16 := subtracts16_of_subtractsWith hwf (fun _ _ _ => rfl) (sbbOp_subtractsWith s 16)
  exact ⟨⟨sixForms_of_exec sub8 sub16, immediateForms_of_exec sub8 sub16, shortForms_of_exec sub8 sub16⟩,
    sixForms_of_exec sbb8 sbb16, immediateForms_of_exec sbb8 sbb16, shortForms_of_exec sbb8 sbb16⟩

/-- Settles O9: each form is the difference at its places, run for its flags. -/
theorem compare : Obligations.Compare := by
  intro s
  have cmp8 := compares8_flags8 s
  have cmp16 := compares16_flags16 s
  exact ⟨sixForms_of_exec cmp8 cmp16, immediateForms_of_exec cmp8 cmp16, shortForms_of_exec cmp8 cmp16⟩

/-- Settles O10: the sum and the difference with 1, but for CF. -/
theorem incAndDec : Obligations.IncAndDec := fun _ hwf =>
  ⟨fun _ => increments16_of_exec hwf rfl, fun _ => increments8_of_exec hwf rfl, fun _ => increments16_of_exec hwf rfl,
    fun _ => decrements16_of_exec hwf rfl, fun _ => decrements8_of_exec hwf rfl, fun _ => decrements16_of_exec hwf rfl⟩

/-- Settles O11: the difference 0 - a and its flags in the terms of R188. -/
theorem negate : Obligations.Negate := fun s hwf =>
  ⟨fun m => runs8_of_unary8 hwf (fun _ _ => rfl) rfl (toNat_zero_sub _) (subFlags_zero (by decide) s (s.rm8 m)),
    fun m => runs16_of_unary16 hwf (fun _ _ => rfl) rfl (toNat_zero_sub _) (subFlags_zero (by decide) s (s.rm16 m))⟩

end Sys2Proof.Proofs
end

section
/-!
SUPPORT. Interrupt entry (R356, R357): the three words of the frame, the pointer read, and the registers after them.
-/
namespace Sys2Proof.Spec
open Sys2Proof.Machine

/-- A stored word stands in every state with the same memory and platform. -/
theorem StoredWord.congr {t u : State} {seg off v : Word} (h : StoredWord t seg off v) (hmem : u.mem = t.mem)
    (hplatform : u.platform = t.platform) : StoredWord u seg off v := by
  unfold StoredWord State.memoryByte at *
  rwa [hmem, isMemory_congr hplatform, isMemory_congr hplatform]

/-- A stored word stays when another word, at an offset neither equal nor next to it, is stored in the segment. -/
theorem StoredWord.writeWord {t : State} {seg off v : Word} (h : StoredWord t seg off v) {x : Word} (w : Word)
    (h1 : off ≠ x) (h2 : x ≠ off + 1) (h3 : off ≠ x + 1) : StoredWord (t.writeWord seg x w) seg off v := by
  obtain ⟨ll, lh, hl, hh⟩ := words_disjoint seg h1 h2 h3
  obtain ⟨low, high⟩ := h
  exact ⟨fun hm => (writeWord_other t seg x w ll lh).trans (low hm),
    fun hm => (writeWord_other t seg x w hl hh).trans (high hm)⟩

/-- The word read at a physical address is the one that memory holds there (R12, R357). -/
theorem pointerWord_readPhysWord (s : State) (a : Nat) : PointerWord s a (s.readPhysWord (BitVec.ofNat 20 a)) := by
  refine ⟨fun h => (lowByte_wordOf _ _).trans (readPhys_memory h), fun h => ?_⟩
  rw [BitVec.ofNat_add] at h ⊢
  exact (highByte_wordOf _ _).trans (readPhys_memory h)

theorem PointerWord.congr {s t : State} {a : Nat} {v : Word} (h : PointerWord s a v) (hmem : t.mem = s.mem)
    (hplatform : t.platform = s.platform) : PointerWord t a v := by
  unfold PointerWord State.memoryByte at *
  rwa [hmem, isMemory_congr hplatform, isMemory_congr hplatform]

/-- The pointer of type `n` lies at 4 * n (R357). -/
theorem vectorAddr_eq (n : Byte) : vectorAddr n = BitVec.ofNat 20 (4 * n.toNat) := by
  apply BitVec.eq_of_toNat_eq
  have := n.isLt
  simp only [vectorAddr, BitVec.toNat_shiftLeft, BitVec.toNat_setWidth, BitVec.toNat_ofNat, Nat.shiftLeft_eq]
  omega

theorem vectorAddr_add_two (n : Byte) : vectorAddr n + 2 = BitVec.ofNat 20 (4 * n.toNat + 2) := by
  rw [vectorAddr_eq, BitVec.ofNat_add]
  rfl

/-- The bus cycles of an interrupt sequence, newest first: the two words of the pointer, and those of the frame (R356, R357). -/
theorem interrupt_bus (s : State) (n : Byte) : (s.interrupt n).bus =
    ⟨.read, .memory (vectorAddr n + 2), .word (s.interrupt n).cs, s.lockOutput⟩ ::
      ⟨.read, .memory (vectorAddr n), .word (s.interrupt n).ip, s.lockOutput⟩ :: s.pushFrame.bus := rfl

/-- IP after an interrupt sequence: the first word of the pointer (R356, R357). -/
theorem interrupt_ip (s : State) (n : Byte) : (s.interrupt n).ip = s.pushFrame.readPhysWord (vectorAddr n) := rfl

/-- CS after an interrupt sequence: the second word of the pointer, read after the first (R356, R357). -/
theorem interrupt_cs (s : State) (n : Byte) :
    (s.interrupt n).cs = (s.pushFrame.noteReadPhysWord (vectorAddr n)).readPhysWord (vectorAddr n + 2) := rfl

/-- The three words of the frame stored, flags first; the registers as they were (R356). -/
def frameStored (s : State) : State :=
  ((s.writeWord s.ss (s.regs.sp - 2) (s.flags.image (s.drawWord 0))).writeWord s.ss (s.regs.sp - 4) s.cs).writeWord
    s.ss (s.regs.sp - 6) s.ip

/-- Words two bytes apart do not meet. -/
theorem offsets_apart (x : Word) {j k : Word} (h1 : j ≠ k) (h2 : j ≠ k + 1) (h3 : k ≠ j + 1) :
    x - j ≠ x - k ∧ x - k ≠ x - j + 1 ∧ x - j ≠ x - k + 1 := by
  refine ⟨?_, ?_, ?_⟩ <;> bv_omega

/-- The three words of the frame stand on the stack: flags, CS and IP (R356). -/
theorem storedWords_frameStored {s : State} (hwf : s.mem.wf = true) :
    StoredWord (frameStored s) s.ss (s.regs.sp - 2) (s.flags.image (s.drawWord 0)) ∧
      StoredWord (frameStored s) s.ss (s.regs.sp - 4) s.cs ∧ StoredWord (frameStored s) s.ss (s.regs.sp - 6) s.ip := by
  have wf1 := writeWord_wf hwf s.ss (s.regs.sp - 2) (s.flags.image (s.drawWord 0))
  have wf2 := writeWord_wf wf1 s.ss (s.regs.sp - 4) s.cs
  obtain ⟨a1, a2, a3⟩ := offsets_apart s.regs.sp (j := 2) (k := 4) (by decide) (by decide) (by decide)
  obtain ⟨b1, b2, b3⟩ := offsets_apart s.regs.sp (j := 2) (k := 6) (by decide) (by decide) (by decide)
  obtain ⟨c1, c2, c3⟩ := offsets_apart s.regs.sp (j := 4) (k := 6) (by decide) (by decide) (by decide)
  exact ⟨((storedWord_writeWord hwf _ _ _).writeWord _ a1 a2 a3).writeWord _ b1 b2 b3,
    (storedWord_writeWord wf1 _ _ _).writeWord _ c1 c2 c3, storedWord_writeWord wf2 _ _ _⟩

/-- No byte of memory but those of the three words changes (R356). -/
theorem memoryByte_frameStored {s : State} {a : PhysAddr}
    (h : ∀ k ∈ [(2 : Word), 4, 6], ¬ covers16 s (Loc16.mem s.ss (s.regs.sp - k)) a) :
    (frameStored s).memoryByte a = s.memoryByte a := by
  have kept : ∀ t : State, t.platform = s.platform → ∀ k ∈ [(2 : Word), 4, 6], ∀ v,
      (t.writeWord s.ss (s.regs.sp - k) v).memoryByte a = t.memoryByte a := fun t ht k hk v =>
    memoryByte_writeWord_uncovered t _ _ v fun hc => h k hk ((covers16_congr ht _ _).1 hc)
  rw [frameStored, kept _ (by simp) 6 (by decide), kept _ (by simp) 4 (by decide), kept _ rfl 2 (by decide)]

/-- The interrupt sequence of the model is that of the statements (R356, R357). -/
theorem entered_interrupt {s : State} (hwf : s.mem.wf = true) (n : Byte) : Entered s (s.interrupt n) n := by
  have mem : (s.interrupt n).mem = (frameStored s).mem := pushFrame_mem s
  have platform : (s.interrupt n).platform = (frameStored s).platform := rfl
  obtain ⟨flags, cs, ip⟩ := storedWords_frameStored hwf
  have regs : (s.interrupt n).regs = s.regs.set16 .sp (s.regs.sp - 6) := pushFrame_regs s
  exact {
    sp := congrArg Regs.sp regs
    regs := fun r hr => (congrArg (·.get16 r) regs).trans (Regs.get16_set16_other _ _ hr)
    saved := ⟨_, flagBits_image _ _, flags.congr mem platform, by
      rw [interrupt_bus, pushFrame_bus, vectorAddr_add_two, vectorAddr_eq]
      simp [wordCycles_eq, lockOutput_eq_lockOn]⟩
    savedCs := cs.congr mem platform
    savedIp := ip.congr mem platform
    memory := fun a ha => (congrArg (Memory.read · a.toNat) mem).trans (memoryByte_frameStored ha)
    masked := rfl
    ip := by
      rw [interrupt_ip, vectorAddr_eq]
      exact (pointerWord_readPhysWord _ _).congr rfl rfl
    cs := by
      rw [interrupt_cs, vectorAddr_add_two]
      exact (pointerWord_readPhysWord _ _).congr rfl rfl
    segs := ⟨rfl, rfl, rfl⟩
    inner := ⟨rfl, rfl, rfl, rfl, rfl, rfl, rfl, rfl⟩ }

/-- The note for the boundary is no part of the interrupt sequence (R353). -/
theorem Entered.noted {s t : State} {n : Byte} (h : Entered s t n) (b : Bool) : Entered s { t with raised := b } n where
  sp := h.sp
  regs := h.regs
  saved := h.saved
  savedCs := h.savedCs
  savedIp := h.savedIp
  memory := h.memory
  masked := h.masked
  ip := h.ip
  cs := h.cs
  segs := h.segs
  inner := h.inner

/-- The sequence that an instruction raises begins after its prefixes have ended (R13, R353). -/
theorem entered_raise {s : State} (hwf : s.mem.wf = true) (n : Byte) :
    Entered { s with pfx := Prefixes.none } (s.raise n) n :=
  (entered_interrupt (s := s.endPrefixes) hwf n).noted true

end Sys2Proof.Spec
end

section
/-!
SUPPORT. Multiplication, division and the conversions (R196 to R205): the products and quotients as numbers, and the shape of
the instructions that write AX, DX and flags alone.
-/
namespace Sys2Proof.Spec
open Sys2Proof.Machine

/-! ## Double words -/

/-- The number of two halves joined. -/
theorem toNat_append_eq {m n : Nat} (x : BitVec m) (y : BitVec n) : (x ++ y).toNat = x.toNat * 2 ^ n + y.toNat := by
  rw [BitVec.toNat_append, ← Nat.shiftLeft_add_eq_or_of_lt y.isLt, Nat.shiftLeft_eq]

/-- The halves of a double word joined are the double word. -/
theorem append_halves (v : BitVec 32) : v.extractLsb' 16 16 ++ v.extractLsb' 0 16 = v :=
  BitVec.extractLsb'_append_extractLsb' (w := 16) (len := 16)

/-- The high half is not zero where the number needs more than the low one (R196). -/
theorem high_ne_zero_iff {n k l : Nat} (h : n = k + l) (v : BitVec n) :
    (v.extractLsb' k l != 0) = true ↔ 2 ^ k ≤ v.toNat := by
  subst h
  have high_lt : v.toNat / 2 ^ k < 2 ^ l := Nat.div_lt_of_lt_mul (Nat.pow_add 2 k l ▸ v.isLt)
  rw [bne_iff_ne, ne_eq, ← BitVec.toNat_inj, BitVec.extractLsb'_toNat, Nat.shiftRight_eq_div_pow,
    Nat.mod_eq_of_lt high_lt, BitVec.ofNat_eq_ofNat, BitVec.toNat_zero, Nat.div_eq_zero_iff]
  have := Nat.two_pow_pos k
  omega

/-- The low half is not the number itself, sign-extended, where the number is out of the half's range (R197). -/
theorem ne_signExtend_iff {n w : Nat} (hw : 0 < w) (h : w ≤ n) (v : BitVec n) :
    (v != (v.setWidth w).signExtend n) = true ↔ OutOfRange w v.toInt := by
  rw [bne_iff_ne, ne_eq, ← BitVec.toInt_inj, BitVec.toInt_signExtend_of_le h]
  have lo := (v.setWidth w).le_toInt
  have hi := (v.setWidth w).toInt_lt
  have value : (v.setWidth w).toInt = v.toInt.bmod (2 ^ w) := by
    rw [BitVec.toInt_setWidth, BitVec.toInt_eq_toNat_bmod v, Int.bmod_bmod_of_dvd (Nat.pow_dvd_pow 2 h)]
  have inRange : -(2 ^ (w - 1)) ≤ v.toInt → v.toInt < 2 ^ (w - 1) → v.toInt.bmod (2 ^ w) = v.toInt := bmod_of_inRange hw
  rw [OutOfRange]
  omega

/-! ## Truncated division (R201, R203) -/

/-- The remainder is smaller than the divisor. -/
theorem abs_tmod_lt (n : Int) {d : Int} (hd : d ≠ 0) : |n.tmod d| < |d| := by
  rw [Int.abs_eq_natAbs, Int.abs_eq_natAbs, Int.natAbs_tmod]
  exact Int.ofNat_lt.2 (Nat.mod_lt _ (Int.natAbs_pos.2 hd))

/-- Quotient and remainder of the truncated division: the remainder has the sign of the dividend. -/
theorem divides_tdiv_tmod (n : Int) {d : Int} (hd : d ≠ 0) : Divides n d (n.tdiv d) (n.tmod d) := by
  refine ⟨?_, abs_tmod_lt n hd, ?_⟩
  · rw [Int.mul_comm, Int.mul_tdiv_add_tmod]
  · have sign := Int.sign_tmod n d
    split at sign
    · exact .inl (Int.sign_eq_zero_iff_zero.1 sign)
    · exact .inr (by rw [← Int.sign_eq_neg_one_iff_neg, sign, Int.sign_eq_neg_one_iff_neg])

/-- The remainder fits the width of the divisor. -/
theorem toInt_ofInt_tmod {w : Nat} (hw : 0 < w) (n : Int) {b : BitVec w} (hb : b.toInt ≠ 0) :
    (BitVec.ofInt w (n.tmod b.toInt)).toInt = n.tmod b.toInt := by
  have hlt := abs_lt.1 (abs_tmod_lt n hb)
  have hle : |b.toInt| ≤ 2 ^ (w - 1) := abs_le.2 ⟨b.le_toInt, b.toInt_lt.le⟩
  exact BitVec.toInt_ofInt_eq_self hw (by omega) (by omega)

/-- Quotient and remainder as they are left in the registers, where the quotient fits (R203). -/
theorem divides_ofInt {w : Nat} (hw : 0 < w) {n : Int} {b : BitVec w} (hb : b.toInt ≠ 0)
    (hlo : -(2 ^ (w - 1)) ≤ n.tdiv b.toInt) (hhi : n.tdiv b.toInt < 2 ^ (w - 1)) :
    Divides n b.toInt (BitVec.ofInt w (n.tdiv b.toInt)).toInt (BitVec.ofInt w (n.tmod b.toInt)).toInt := by
  rw [BitVec.toInt_ofInt_eq_self hw hlo hhi, toInt_ofInt_tmod hw n hb]
  exact divides_tdiv_tmod n hb

/-- Where IDIV takes no divide error the quotient fits (R203). -/
theorem idivError_eq_false {w : Nat} {s : State} {d q : Int} (h : idivError w s d q = false) :
    d ≠ 0 ∧ -(2 ^ (w - 1)) ≤ q ∧ q < 2 ^ (w - 1) := by
  simp only [idivError, Bool.or_eq_false_iff, decide_eq_false_iff_not] at h
  obtain ⟨⟨⟨hd, hhi⟩, hlo⟩, -⟩ := h
  exact ⟨hd, by omega, by omega⟩

theorem idivError_of_inside {w : Nat} (s : State) {d q : Int} (hd : d ≠ 0) (hlo : -(2 ^ (w - 1)) < q)
    (hhi : q < 2 ^ (w - 1)) : idivError w s d q = false := by
  simp [idivError, hd, hhi.not_ge, hlo.not_gt, hlo.ne']

theorem idivError_of_outside {w : Nat} (s : State) {d q : Int} (h : d = 0 ∨ q < -(2 ^ (w - 1)) ∨ 2 ^ (w - 1) ≤ q) :
    idivError w s d q = true := by
  obtain h | h | h := h <;> simp [idivError, h]

/-! ## Instructions that write AX, DX and flags alone -/

/-- The bus cycles `cs` were made, AX (and DX if `both`) and flags were written, and nothing else. -/
structure AccumulatorAlone (both : Bool) (cs : List BusCycle) (s t : State) : Prop where
  regs : ∀ r, r ≠ .ax → (both = true → r ≠ .dx) → t.reg16 r = s.reg16 r
  memory : MemoryKept s t
  frame : Frame cs s t

theorem accumulatorAlone_of_flagsAlone {both : Bool} {cs : List BusCycle} {s t : State}
    (h : t = { after s cs with flags := t.flags, draws := t.draws }) : AccumulatorAlone both cs s t := by
  obtain ⟨regs, mem, frame⟩ := kept_of_flagsAlone h
  exact ⟨fun r _ _ => congrArg (·.get16 r) regs, fun a => congrArg (·.read a.toNat) mem, (frame_after s cs).trans frame⟩

theorem AccumulatorAlone.setReg16 {both : Bool} {cs : List BusCycle} {s t : State} (h : AccumulatorAlone both cs s t)
    {r : Reg16} (hr : r = .ax ∨ (both = true ∧ r = .dx)) (v : Word) : AccumulatorAlone both cs s (t.setReg16 r v) where
  regs := by
    intro q hax hdx
    have hq : q ≠ r := by
      rintro rfl
      exact hr.elim hax fun ⟨hb, e⟩ => hdx hb e
    exact (regsKeptBut_setReg16 t r v q hq).trans (h.regs q hax hdx)
  memory := h.memory
  frame := h.frame.trans (frame_setReg16 t r v)

theorem AccumulatorAlone.runs {both : Bool} {cs : List BusCycle} {s t : State} {i : Instr} {P : State → Prop}
    (h : AccumulatorAlone both cs s t) (he : exec i s = .next t) (hP : P t) : RunsAccumulator both s i cs P :=
  ⟨t, he, hP, h.regs, h.memory, h.frame⟩

/-- The divide error is raised from a state that is unpredictable in AX, DX and the arithmetic flags alone (R201, R359). -/
theorem AccumulatorAlone.divideError {both : Bool} {cs : List BusCycle} {s u : State} {i : Instr}
    (h : AccumulatorAlone both cs s u) (hflags : ControlFlags s.flags u.flags) (hwf : u.mem.wf = true)
    (he : exec i s = .next (u.raise 0)) : DivideError both s i cs :=
  ⟨u, u.raise 0, ⟨h.regs, hflags, h.memory, h.frame⟩, he, entered_raise hwf 0, State.raise_raised u 0⟩

theorem reg8_al_setReg16_ax (s : State) (lo hi : Byte) : (s.setReg16 .ax (wordOf lo hi)).reg8 .al = lo :=
  lowByte_wordOf lo hi

theorem reg8_ah_setReg16_ax (s : State) (lo hi : Byte) : (s.setReg16 .ax (wordOf lo hi)).reg8 .ah = hi :=
  highByte_wordOf lo hi

/-! ## Multiplication -/

/-- The product of two numbers of a width fits the double width (R196). -/
theorem product_lt {w : Nat} (x y : BitVec w) : x.toNat * y.toNat < 2 ^ (w + w) :=
  Nat.pow_add 2 w w ▸ Nat.mul_lt_mul'' x.isLt y.isLt

theorem accumulatorAlone_multiplied (both : Bool) (cs : List BusCycle) (s : State) (big : Bool) :
    AccumulatorAlone both cs s ((after s cs).multiplied big) := accumulatorAlone_of_flagsAlone rfl

theorem accumulatorAlone_divided (both : Bool) (cs : List BusCycle) (s : State) :
    AccumulatorAlone both cs s (after s cs).divided := accumulatorAlone_of_flagsAlone rfl

/-- The flags of a multiplication: CF and OF as given, the others free (R198). -/
theorem productFlags_mulFlags {s : State} {big : Bool} {p : Prop} (h : big = true ↔ p) :
    ProductFlags s.flags p (mulFlags s big) :=
  ⟨h, rfl, rfl, rfl, rfl⟩

section
variable {s : State} {i : Instr} {cs : List BusCycle}

theorem mul8_runs {b : Byte} (he : exec i s = mul8 b (after s cs)) :
    RunsAccumulator false s i cs fun t => t.regs.ax.toNat = (s.reg8 .al).toNat * b.toNat ∧
      ProductFlags s.flags (2 ^ 8 ≤ (s.reg8 .al).toNat * b.toNat) t.flags := by
  have value : (BitVec.ofNat 16 ((s.reg8 .al).toNat * b.toNat)).toNat = (s.reg8 .al).toNat * b.toNat :=
    Nat.mod_eq_of_lt (product_lt (s.reg8 .al) b)
  have big := high_ne_zero_iff (k := 8) (l := 8) rfl (BitVec.ofNat 16 ((s.reg8 .al).toNat * b.toNat))
  rw [value] at big
  exact ((accumulatorAlone_multiplied _ cs s _).setReg16 (.inl rfl) _).runs he ⟨value, productFlags_mulFlags big⟩

theorem mul16_runs {b : Word} (he : exec i s = mul16 b (after s cs)) :
    RunsAccumulator true s i cs fun t => t.regs.dx.toNat * 2 ^ 16 + t.regs.ax.toNat = s.regs.ax.toNat * b.toNat ∧
      ProductFlags s.flags (2 ^ 16 ≤ s.regs.ax.toNat * b.toNat) t.flags := by
  have value : (BitVec.ofNat 32 (s.regs.ax.toNat * b.toNat)).toNat = s.regs.ax.toNat * b.toNat :=
    Nat.mod_eq_of_lt (product_lt s.regs.ax b)
  have big := high_ne_zero_iff (k := 16) (l := 16) rfl (BitVec.ofNat 32 (s.regs.ax.toNat * b.toNat))
  have halves := toNat_append_eq ((BitVec.ofNat 32 (s.regs.ax.toNat * b.toNat)).extractLsb' 16 16)
    ((BitVec.ofNat 32 (s.regs.ax.toNat * b.toNat)).extractLsb' 0 16)
  rw [append_halves, value] at halves
  rw [value] at big
  exact (((accumulatorAlone_multiplied _ cs s _).setReg16 (.inr ⟨rfl, rfl⟩) _).setReg16 (.inl rfl) _).runs he
    ⟨halves.symm, productFlags_mulFlags big⟩

theorem imul8_runs {b : Byte} (he : exec i s = imul8 b (after s cs)) :
    RunsAccumulator false s i cs fun t => t.regs.ax.toInt = (s.reg8 .al).toInt * b.toInt ∧
      ProductFlags s.flags (OutOfRange 8 ((s.reg8 .al).toInt * b.toInt)) t.flags := by
  have lo := BitVec.le_toInt_mul_toInt (x := s.reg8 .al) (y := b)
  have hi := BitVec.toInt_mul_toInt_le (x := s.reg8 .al) (y := b)
  have value : (BitVec.ofInt 16 ((s.reg8 .al).toInt * b.toInt)).toInt = (s.reg8 .al).toInt * b.toInt :=
    BitVec.toInt_ofInt_eq_self (by decide) (by omega) (by omega)
  have big := ne_signExtend_iff (w := 8) (by decide) (by decide) (BitVec.ofInt 16 ((s.reg8 .al).toInt * b.toInt))
  rw [value] at big
  exact ((accumulatorAlone_multiplied _ cs s _).setReg16 (.inl rfl) _).runs he ⟨value, productFlags_mulFlags big⟩

theorem imul16_runs {b : Word} (he : exec i s = imul16 b (after s cs)) :
    RunsAccumulator true s i cs fun t => (t.regs.dx ++ t.regs.ax : BitVec 32).toInt = s.regs.ax.toInt * b.toInt ∧
      ProductFlags s.flags (OutOfRange 16 (s.regs.ax.toInt * b.toInt)) t.flags := by
  have lo := BitVec.le_toInt_mul_toInt (x := s.regs.ax) (y := b)
  have hi := BitVec.toInt_mul_toInt_le (x := s.regs.ax) (y := b)
  have value : (BitVec.ofInt 32 (s.regs.ax.toInt * b.toInt)).toInt = s.regs.ax.toInt * b.toInt :=
    BitVec.toInt_ofInt_eq_self (by decide) (by omega) (by omega)
  have big := ne_signExtend_iff (w := 16) (by decide) (by decide) (BitVec.ofInt 32 (s.regs.ax.toInt * b.toInt))
  rw [value, BitVec.setWidth_eq_extractLsb' (by decide)] at big
  exact (((accumulatorAlone_multiplied _ cs s _).setReg16 (.inr ⟨rfl, rfl⟩) _).setReg16 (.inl rfl) _).runs he
    ⟨(congrArg BitVec.toInt (append_halves _)).trans value, productFlags_mulFlags big⟩

/-! ## Division -/

theorem divideError8_raises (hwf : s.mem.wf = true) (he : exec i s = divideError8 (after s cs)) :
    DivideError false s i cs := by
  have alone := (accumulatorAlone_divided false cs s).setReg16 (.inl rfl) ((after s cs).drawWord 0)
  exact alone.divideError ⟨rfl, rfl, rfl⟩ hwf he

theorem divideError16_raises (hwf : s.mem.wf = true) (he : exec i s = divideError16 (after s cs)) :
    DivideError true s i cs := by
  have alone := ((accumulatorAlone_divided true cs s).setReg16 (.inl rfl) ((after s cs).drawWord 0)).setReg16
    (.inr ⟨rfl, rfl⟩) ((after s cs).drawWord 1)
  exact alone.divideError ⟨rfl, rfl, rfl⟩ hwf he

/-- DIV of a byte that completes: quotient in AL, remainder in AH (R200). -/
theorem div8_runs {b : Byte} (he : exec i s = div8 b (after s cs)) (hb : b.toNat ≠ 0)
    (hq : s.regs.ax.toNat / b.toNat < 2 ^ 8) :
    RunsAccumulator false s i cs fun t => (t.reg8 .al).toNat = s.regs.ax.toNat / b.toNat ∧
      (t.reg8 .ah).toNat = s.regs.ax.toNat % b.toNat ∧ ControlFlags s.flags t.flags := by
  have hr : s.regs.ax.toNat % b.toNat < 2 ^ 8 := (Nat.mod_lt _ (Nat.pos_of_ne_zero hb)).trans b.isLt
  exact ((accumulatorAlone_divided _ cs s).setReg16 (.inl rfl) _).runs
    (he.trans (if_neg fun h => h.elim hb hq.not_ge))
    ⟨(congrArg BitVec.toNat (lowByte_wordOf _ _)).trans (Nat.mod_eq_of_lt hq),
      (congrArg BitVec.toNat (highByte_wordOf _ _)).trans (Nat.mod_eq_of_lt hr), rfl, rfl, rfl⟩

theorem dxax_toNat (s : State) : s.dxax.toNat = s.regs.dx.toNat * 2 ^ 16 + s.regs.ax.toNat := toNat_append_eq _ _

/-- DIV of a word that completes: quotient in AX, remainder in DX (R200). -/
theorem div16_runs {b : Word} (he : exec i s = div16 b (after s cs)) (hb : b.toNat ≠ 0)
    (hq : s.dxax.toNat / b.toNat < 2 ^ 16) :
    RunsAccumulator true s i cs fun t => t.regs.ax.toNat = s.dxax.toNat / b.toNat ∧
      t.regs.dx.toNat = s.dxax.toNat % b.toNat ∧ ControlFlags s.flags t.flags := by
  have hr : s.dxax.toNat % b.toNat < 2 ^ 16 := (Nat.mod_lt _ (Nat.pos_of_ne_zero hb)).trans b.isLt
  exact (((accumulatorAlone_divided _ cs s).setReg16 (.inr ⟨rfl, rfl⟩) _).setReg16 (.inl rfl) _).runs
    (he.trans (if_neg fun h => h.elim hb hq.not_ge)) ⟨Nat.mod_eq_of_lt hq, Nat.mod_eq_of_lt hr, rfl, rfl, rfl⟩

theorem div8_raises {b : Byte} (hwf : s.mem.wf = true) (he : exec i s = div8 b (after s cs))
    (h : b.toNat = 0 ∨ 2 ^ 8 ≤ s.regs.ax.toNat / b.toNat) : DivideError false s i cs :=
  divideError8_raises hwf (he.trans (if_pos h))

theorem div16_raises {b : Word} (hwf : s.mem.wf = true) (he : exec i s = div16 b (after s cs))
    (h : b.toNat = 0 ∨ 2 ^ 16 ≤ s.dxax.toNat / b.toNat) : DivideError true s i cs :=
  divideError16_raises hwf (he.trans (if_pos h))

theorem idiv8_raises {b : Byte} (hwf : s.mem.wf = true) (he : exec i s = idiv8 b (after s cs))
    (h : idivError 8 (after s cs) b.toInt (s.regs.ax.toInt.tdiv b.toInt) = true) : DivideError false s i cs :=
  divideError8_raises hwf (he.trans (if_pos h))

theorem idiv16_raises {b : Word} (hwf : s.mem.wf = true) (he : exec i s = idiv16 b (after s cs))
    (h : idivError 16 (after s cs) b.toInt (s.dxax.toInt.tdiv b.toInt) = true) : DivideError true s i cs :=
  divideError16_raises hwf (he.trans (if_pos h))

/-- IDIV of a byte that completes: quotient in AL, remainder in AH (R203). -/
theorem idiv8_runs {b : Byte} (he : exec i s = idiv8 b (after s cs))
    (hok : idivError 8 (after s cs) b.toInt (s.regs.ax.toInt.tdiv b.toInt) = false) :
    RunsAccumulator false s i cs fun t =>
      Divides s.regs.ax.toInt b.toInt (t.reg8 .al).toInt (t.reg8 .ah).toInt ∧ ControlFlags s.flags t.flags := by
  obtain ⟨hb, hlo, hhi⟩ := idivError_eq_false hok
  refine ((accumulatorAlone_divided _ cs s).setReg16 (.inl rfl) _).runs (he.trans (if_neg (Bool.not_eq_true _ ▸ hok)))
    ⟨?_, rfl, rfl, rfl⟩
  rw [reg8_al_setReg16_ax, reg8_ah_setReg16_ax]
  exact divides_ofInt (by decide) hb hlo hhi

/-- IDIV of a word that completes: quotient in AX, remainder in DX (R203). -/
theorem idiv16_runs {b : Word} (he : exec i s = idiv16 b (after s cs))
    (hok : idivError 16 (after s cs) b.toInt (s.dxax.toInt.tdiv b.toInt) = false) :
    RunsAccumulator true s i cs fun t =>
      Divides s.dxax.toInt b.toInt t.regs.ax.toInt t.regs.dx.toInt ∧ ControlFlags s.flags t.flags := by
  obtain ⟨hb, hlo, hhi⟩ := idivError_eq_false hok
  exact (((accumulatorAlone_divided _ cs s).setReg16 (.inr ⟨rfl, rfl⟩) _).setReg16 (.inl rfl) _).runs
    (he.trans (if_neg (Bool.not_eq_true _ ▸ hok))) ⟨divides_ofInt (by decide) hb hlo hhi, rfl, rfl, rfl⟩

end

/-! ## The dispatch: the divisor is read, then the operation runs -/

theorem exec_divRm8 (s : State) (m : Rm8) : exec (.divRm8 m) s = div8 (s.rm8 m) (after s (reads8 s (s.loc8 m))) :=
  congrArg (div8 (s.rm8 m)) (noteGet8_eq_after s (s.loc8 m))

theorem exec_divRm16 (s : State) (m : Rm16) :
    exec (.divRm16 m) s = div16 (s.rm16 m) (after s (reads16 s (s.loc16 m))) :=
  congrArg (div16 (s.rm16 m)) (noteGet16_eq_after s (s.loc16 m))

theorem exec_idivRm8 (s : State) (m : Rm8) : exec (.idivRm8 m) s = idiv8 (s.rm8 m) (after s (reads8 s (s.loc8 m))) :=
  congrArg (idiv8 (s.rm8 m)) (noteGet8_eq_after s (s.loc8 m))

theorem exec_idivRm16 (s : State) (m : Rm16) :
    exec (.idivRm16 m) s = idiv16 (s.rm16 m) (after s (reads16 s (s.loc16 m))) :=
  congrArg (idiv16 (s.rm16 m)) (noteGet16_eq_after s (s.loc16 m))

/-! ## Conversions (R204, R205) -/

/-- The sign of a word in all 16 bits above it. -/
theorem signWord_append (x : Word) : ((if x.msb then 0xFFFF else 0 : Word) ++ x : BitVec 32) = x.signExtend 32 :=
  (BitVec.signExtend_eq_append_of_le (w := 16) (v := 32) (by decide)).symm

end Sys2Proof.Spec
end

section
/-!
The statements about multiplication, division and the conversions, settled.
-/
namespace Sys2Proof.Proofs
open Sys2Proof.Machine Sys2Proof.Spec

/-- Settles O12: the exact products, and what their high halves say. -/
theorem multiply : Obligations.Multiply := fun s m n =>
  ⟨mul8_runs (congrArg (mul8 (s.rm8 m)) (noteGet8_eq_after s _)),
    mul16_runs (congrArg (mul16 (s.rm16 n)) (noteGet16_eq_after s _)),
    imul8_runs (congrArg (imul8 (s.rm8 m)) (noteGet8_eq_after s _)),
    imul16_runs (congrArg (imul16 (s.rm16 n)) (noteGet16_eq_after s _))⟩

/-- Settles O13: the quotient and the remainder of the numbers, both within the width. -/
theorem divide : Obligations.Divide := by
  intro s m n
  rw [← dxax_toNat]
  exact ⟨div8_runs (exec_divRm8 s m), div16_runs (exec_divRm16 s n)⟩

/-- Settles O14: where the test for the divide error fails the division completes, and the test fails inside the range; at the
least quotient it is free. -/
theorem signedDivide : Obligations.SignedDivide := by
  intro s m n
  refine ⟨fun hd hlo hhi => idiv8_runs (exec_idivRm8 s m) (idivError_of_inside _ hd hlo hhi),
    fun hd hlo hhi => idiv16_runs (exec_idivRm16 s n) (idivError_of_inside _ hd hlo hhi), fun hwf _ _ => ?byte,
    fun hwf _ _ => ?word⟩
  case byte =>
    cases h : idivError 8 (after s (reads8 s (s.loc8 m))) (s.rm8 m).toInt (s.regs.ax.toInt.tdiv (s.rm8 m).toInt) with
    | false => exact .inl (idiv8_runs (exec_idivRm8 s m) h)
    | true => exact .inr (idiv8_raises hwf (exec_idivRm8 s m) h)
  case word =>
    cases h : idivError 16 (after s (reads16 s (s.loc16 n))) (s.rm16 n).toInt (s.dxax.toInt.tdiv (s.rm16 n).toInt) with
    | false => exact .inl (idiv16_runs (exec_idivRm16 s n) h)
    | true => exact .inr (idiv16_raises hwf (exec_idivRm16 s n) h)

/-- Settles O15: each premise is the test for the divide error, which raises the interrupt of type 0. -/
theorem divideErrors : Obligations.DivideErrors := by
  intro s hwf m n
  rw [← dxax_toNat]
  exact ⟨div8_raises hwf (exec_divRm8 s m), div16_raises hwf (exec_divRm16 s n),
    fun h => idiv8_raises hwf (exec_idivRm8 s m) (idivError_of_outside _ h),
    fun h => idiv16_raises hwf (exec_idivRm16 s n) (idivError_of_outside _ h)⟩

/-- Settles O16: sign extension keeps the signed number. -/
theorem conversions : Obligations.Conversions := fun s =>
  ⟨⟨_, rfl, BitVec.toInt_signExtend_of_le (by decide), regsKeptBut_setReg16 s .ax _, rfl, fun _ => rfl,
      frame_setReg16 s .ax _⟩,
    ⟨_, rfl, (congrArg BitVec.toInt (signWord_append s.regs.ax)).trans (BitVec.toInt_signExtend_of_le (by decide)),
      regsKeptBut_setReg16 s .dx _, rfl, fun _ => rfl, frame_setReg16 s .dx _⟩⟩

end Sys2Proof.Proofs
end

section
/-!
SUPPORT. The logic operations bit by bit, with their flags (R46), in the shapes of the two-operand instructions.
-/
namespace Sys2Proof.Spec
open Sys2Proof.Machine

/-- A logic result has the flags of R46, whatever bus cycles were made before. -/
theorem logicFlags_logic {w : Nat} (s : State) (cs : List BusCycle) (v : BitVec w) :
    LogicFlags s v ((after s cs).logic v).2.flags :=
  ⟨rfl, rfl, resultFlags_resultFlags s v, rfl, rfl, rfl⟩

/-- From `s`, whatever bus cycles were made, `op` combines its operands bit by bit and writes the flags of the result. -/
def CombinesWith {w : Nat} (s : State) (bit : Bool → Bool → Bool) (op : BinOp w) : Prop :=
  ∀ cs a b, (∀ k < w, (op (after s cs) a b).1.getLsbD k = bit (a.getLsbD k) (b.getLsbD k)) ∧
    LogicFlags s (op (after s cs) a b).1 (op (after s cs) a b).2.flags

theorem andOp_combinesWith (s : State) (w : Nat) : CombinesWith s and (andOp (w := w)) := fun cs _ _ =>
  ⟨fun _ _ => BitVec.getLsbD_and, logicFlags_logic s cs _⟩

theorem orOp_combinesWith (s : State) (w : Nat) : CombinesWith s or (orOp (w := w)) := fun cs _ _ =>
  ⟨fun _ _ => BitVec.getLsbD_or, logicFlags_logic s cs _⟩

theorem xorOp_combinesWith (s : State) (w : Nat) : CombinesWith s xor (xorOp (w := w)) := fun cs _ _ =>
  ⟨fun _ _ => BitVec.getLsbD_xor, logicFlags_logic s cs _⟩

theorem combines8_of_combinesWith {s : State} {bit : Bool → Bool → Bool} {op : BinOp 8} (hwf : s.mem.wf = true)
    (hop : BinOp.FlagsAlone op) (h : CombinesWith s bit op) : ByteShape s (binary8 op) (Combines8 bit s) := by
  intro i l b src he hget
  obtain ⟨bits, flags⟩ := h (reads8 s l ++ src) (s.get8 l) b
  exact runs8_of_binary8 hwf hop he hget bits flags

theorem combines16_of_combinesWith {s : State} {bit : Bool → Bool → Bool} {op : BinOp 16} (hwf : s.mem.wf = true)
    (hop : BinOp.FlagsAlone op) (h : CombinesWith s bit op) : WordShape s (binary16 op) (Combines16 bit s) := by
  intro i l b src he hget
  obtain ⟨bits, flags⟩ := h (reads16 s l ++ src) (s.get16 l) b
  exact runs16_of_binary16 hwf hop he hget bits flags

/-- TEST: the conjunction, run for its flags (R224). -/
theorem tests8_of_exec {s : State} {i : Instr} {l : Loc8} {b : Byte} (he : exec i s = flags8 andOp l b s) :
    Tests8 s i l b := by
  obtain ⟨bits, flags⟩ := andOp_combinesWith s 8 (reads8 s l ++ []) (s.get8 l) b
  rw [Tests8, ← List.append_nil (reads8 s l)]
  exact runsFlags_of_flags8 (fun _ _ _ => rfl) he rfl ⟨_, bits, flags⟩

theorem tests16_of_exec {s : State} {i : Instr} {l : Loc16} {b : Word} (he : exec i s = flags16 andOp l b s) :
    Tests16 s i l b := by
  obtain ⟨bits, flags⟩ := andOp_combinesWith s 16 (reads16 s l ++ []) (s.get16 l) b
  rw [Tests16, ← List.append_nil (reads16 s l)]
  exact runsFlags_of_flags16 (fun _ _ _ => rfl) he rfl ⟨_, bits, flags⟩

end Sys2Proof.Spec
end

section
/-!
SUPPORT. The one-bit steps of the shifts and rotates at any operand width, and any number of them: the shifts in closed form
(R237 to R239), the rotates as turns of a ring of bits (R233 to R236).
-/
namespace Sys2Proof.Spec
open Sys2Proof.Machine

/-! ## A bit moved in -/

theorem getLsbD_carryIn {w : Nat} (hw : 0 < w) (c : Bool) (k : Nat) : (carryIn w c).getLsbD k = (decide (k = 0) && c) := by
  cases c with
  | false => simp
  | true => simpa [carryIn, BitVec.getLsbD_one] using fun _ => hw

/-- A bit moved in at the bottom. -/
theorem shiftLeft_or_carryIn {w : Nat} (hw : 0 < w) (a : BitVec w) (c : Bool) :
    (a <<< 1) ||| carryIn w c = a.shiftConcat c := by
  refine BitVec.eq_of_getLsbD_eq fun k hk => ?_
  rw [BitVec.getLsbD_or, BitVec.getLsbD_shiftLeft, getLsbD_carryIn hw, BitVec.getLsbD_shiftConcat]
  by_cases h : k = 0 <;> simp [h, hk, hw]

/-- A bit moved in at the top, seen bit by bit. -/
theorem getLsbD_ushiftRight_or_carryIn {w : Nat} (a : BitVec w) (c : Bool) {k : Nat} (hk : k < w) :
    ((a >>> 1) ||| (carryIn w c <<< (w - 1))).getLsbD k = if k + 1 = w then c else a.getLsbD (k + 1) := by
  rw [BitVec.getLsbD_or, BitVec.getLsbD_ushiftRight, BitVec.getLsbD_shiftLeft, getLsbD_carryIn (by omega), Nat.add_comm 1 k]
  by_cases top : k + 1 = w
  · simp [top, hk, show k - (w - 1) = 0 by omega, show ¬ k < w - 1 by omega]
  · simp [top, show k < w - 1 by omega]

/-- A bit moved in at the top, as a number. -/
theorem toNat_ushiftRight_or_carryIn {w : Nat} (hw : 0 < w) (a : BitVec w) (c : Bool) :
    ((a >>> 1) ||| (carryIn w c <<< (w - 1))).toNat = a.toNat / 2 + 2 ^ (w - 1) * c.toNat := by
  have double := two_pow_eq_double hw
  have half : a.toNat / 2 < 2 ^ (w - 1) := by have := a.isLt; omega
  have top : 2 ^ (w - 1) * c.toNat < 2 ^ w :=
    (Nat.mul_le_mul_left _ (Bool.toNat_le c)).trans_lt (by have := Nat.two_pow_pos (w - 1); omega)
  rw [BitVec.toNat_or, BitVec.toNat_ushiftRight, BitVec.toNat_shiftLeft, toNat_carryIn hw, Nat.shiftLeft_eq_mul_pow,
    Nat.mul_comm c.toNat, Nat.mod_eq_of_lt top, Nat.shiftRight_eq_div_pow, Nat.pow_one, Nat.lor_comm,
    ← Nat.two_pow_add_eq_or_of_lt half, Nat.add_comm]

/-! ## Many steps -/

/-- What every step leaves holds after one step or more. -/
theorem repeatStep_of_step {w : Nat} {f : ShiftStep w} {p : BitVec w × Bool → Prop} (h : ∀ x, p (f x)) {n : Nat}
    (hn : n ≠ 0) (x : BitVec w × Bool) : p (repeatStep f n x) := by
  cases n with
  | zero => exact absurd rfl hn
  | succ n =>
    induction n generalizing x with
    | zero => exact h x
    | succ n ih => exact ih (f x) n.succ_ne_zero

/-- SHL (R237): the number shifted, and the last bit moved out, which is 0 for a count above the width. -/
theorem repeatStep_shlStep {w n : Nat} (hn : n ≠ 0) (x : BitVec w × Bool) :
    repeatStep shlStep n x = (x.1 <<< n, decide (n ≤ w) && x.1.getLsbD (w - n)) := by
  obtain ⟨n, rfl⟩ := Nat.exists_eq_succ_of_ne_zero hn
  clear hn
  have last : (decide (n + 1 ≤ w) && x.1.getLsbD (w - (n + 1))) = x.1.getMsbD n := by
    rw [BitVec.getMsbD_eq_getLsbD, Nat.add_comm n 1, Nat.sub_add_eq, Nat.add_comm 1 n]
    rfl
  rw [Nat.succ_eq_add_one, last]
  clear last
  induction n generalizing x with
  | zero => rw [repeatStep, repeatStep, shlStep, BitVec.msb_eq_getMsbD_zero]
  | succ n ih =>
    rw [repeatStep, ih (shlStep x), shlStep, ← BitVec.shiftLeft_add, Nat.add_comm 1, BitVec.getMsbD_shiftLeft]

/-- SHR (R238): the number shifted, and the last bit moved out. -/
theorem repeatStep_shrStep {w n : Nat} (hn : n ≠ 0) (x : BitVec w × Bool) :
    repeatStep shrStep n x = (x.1 >>> n, x.1.getLsbD (n - 1)) := by
  obtain ⟨n, rfl⟩ := Nat.exists_eq_succ_of_ne_zero hn
  clear hn
  induction n generalizing x with
  | zero => rfl
  | succ n ih =>
    rw [repeatStep, ih (shrStep x), shrStep, ← BitVec.shiftRight_add, BitVec.getLsbD_ushiftRight]
    simp [Nat.add_comm]

/-- SAR (R239): the number shifted, and the last bit moved out, a copy of the sign for a count above the width. -/
theorem repeatStep_sarStep {w n : Nat} (hn : n ≠ 0) (x : BitVec w × Bool) :
    repeatStep sarStep n x = (x.1.sshiftRight n, if n ≤ w then x.1.getLsbD (n - 1) else x.1.msb) := by
  obtain ⟨n, rfl⟩ := Nat.exists_eq_succ_of_ne_zero hn
  clear hn
  induction n generalizing x with
  | zero =>
    obtain ⟨a, c⟩ := x
    cases w with
    | zero => simp [repeatStep, sarStep, BitVec.eq_nil a]
    | succ w => simp [repeatStep, sarStep]
  | succ n ih =>
    have last : (if n + 1 ≤ w then (x.1.sshiftRight 1).getLsbD n else (x.1.sshiftRight 1).msb) =
        if n + 2 ≤ w then x.1.getLsbD (n + 1) else x.1.msb := by
      rw [BitVec.getLsbD_sshiftRight, BitVec.msb_sshiftRight, Nat.add_comm 1 n]
      by_cases within : n + 1 ≤ w
      · simp [within, show ¬ w ≤ n by omega, show n + 1 < w ↔ n + 2 ≤ w from Iff.rfl]
      · simp [within, show ¬ n + 2 ≤ w by omega]
    rw [repeatStep, ih (sarStep x), sarStep, ← BitVec.sshiftRight_add, Nat.add_comm 1]
    exact congrArg _ last

/-! ## The rotates as turns of a ring -/

/-- A step that moves each bit of a ring of `m` bits one place up, repeated, moves it `n` places up. -/
theorem repeatStep_turnsUp {w m : Nat} {f : ShiftStep w} {bit : BitVec w × Bool → Nat → Bool}
    (h : ∀ x, ∀ k < m, bit (f x) ((k + 1) % m) = bit x k) (n : Nat) (x : BitVec w × Bool) :
    ∀ k < m, bit (repeatStep f n x) ((k + n) % m) = bit x k := by
  induction n generalizing x with
  | zero =>
    intro k hk
    rw [Nat.add_zero, Nat.mod_eq_of_lt hk, repeatStep]
  | succ n ih =>
    intro k hk
    have moved := ih (f x) ((k + 1) % m) (Nat.mod_lt _ (Nat.zero_lt_of_lt hk))
    rw [Nat.mod_add_mod, Nat.add_assoc, Nat.add_comm 1 n] at moved
    exact moved.trans (h x k hk)

/-- A step that moves each bit of a ring of `m` bits one place down, repeated, moves it `n` places down. -/
theorem repeatStep_turnsDown {w m : Nat} {f : ShiftStep w} {bit : BitVec w × Bool → Nat → Bool}
    (h : ∀ x, ∀ k < m, bit (f x) k = bit x ((k + 1) % m)) (n : Nat) (x : BitVec w × Bool) :
    ∀ k < m, bit (repeatStep f n x) k = bit x ((k + n) % m) := by
  induction n generalizing x with
  | zero =>
    intro k hk
    rw [Nat.add_zero, Nat.mod_eq_of_lt hk, repeatStep]
  | succ n ih =>
    intro k hk
    have moved := h x ((k + n) % m) (Nat.mod_lt _ (Nat.zero_lt_of_lt hk))
    rw [Nat.mod_add_mod, Nat.add_assoc] at moved
    exact (ih (f x) k hk).trans moved

/-- The bit above a bit of a ring: the next one, or the lowest. -/
theorem succ_mod_cases {k m : Nat} (hk : k < m) :
    (k + 1 < m ∧ (k + 1) % m = k + 1) ∨ (k + 1 = m ∧ (k + 1) % m = 0) := by
  obtain h | h := Nat.lt_or_eq_of_le (Nat.succ_le_of_lt hk)
  · exact .inl ⟨h, Nat.mod_eq_of_lt h⟩
  · exact .inr ⟨h, h ▸ Nat.mod_self _⟩

/-- ROR turns the operand down (R234). -/
theorem getLsbD_rorStep {w : Nat} (x : BitVec w × Bool) {k : Nat} (hk : k < w) :
    (rorStep x).1.getLsbD k = x.1.getLsbD ((k + 1) % w) := by
  rw [rorStep, getLsbD_ushiftRight_or_carryIn _ _ hk]
  obtain ⟨hlt, h⟩ | ⟨htop, h⟩ := succ_mod_cases hk
  · rw [h, if_neg hlt.ne]
  · rw [h, if_pos htop]

section
variable {w : Nat} (hw : 0 < w) (x : BitVec w × Bool)
include hw

theorem rolStep_eq : rolStep x = (x.1.shiftConcat x.1.msb, x.1.msb) :=
  congrArg (·, x.1.msb) (shiftLeft_or_carryIn hw x.1 x.1.msb)

theorem rclStep_eq : rclStep x = (x.1.shiftConcat x.2, x.1.msb) :=
  congrArg (·, x.1.msb) (shiftLeft_or_carryIn hw x.1 x.2)

/-- ROL turns the operand up (R233). -/
theorem getLsbD_rolStep {k : Nat} (hk : k < w) : (rolStep x).1.getLsbD ((k + 1) % w) = x.1.getLsbD k := by
  rw [rolStep_eq hw, BitVec.getLsbD_shiftConcat]
  obtain ⟨hlt, h⟩ | ⟨htop, h⟩ := succ_mod_cases hk
  · simp [h, hlt]
  · simp [BitVec.msb_eq_getLsbD_last, ← htop]

/-- RCL turns the ring of the operand and CF up (R235). -/
theorem ringBit_rclStep {k : Nat} (hk : k < w + 1) :
    ringBit (rclStep x).1 (rclStep x).2 ((k + 1) % (w + 1)) = ringBit x.1 x.2 k := by
  rw [rclStep_eq hw, ringBit, ringBit, BitVec.getLsbD_shiftConcat]
  obtain ⟨hlt, h⟩ | ⟨htop, h⟩ := succ_mod_cases hk
  · rw [h, if_pos (Nat.lt_of_succ_lt_succ hlt)]
    by_cases top : k + 1 < w
    · simp [top]
    · simp [top, BitVec.msb_eq_getLsbD_last, show w - 1 = k by omega]
  · simp [h, hw, show ¬ k < w by omega]

/-- RCR turns the ring of the operand and CF down (R236). -/
theorem ringBit_rcrStep {k : Nat} (hk : k < w + 1) :
    ringBit (rcrStep x).1 (rcrStep x).2 k = ringBit x.1 x.2 ((k + 1) % (w + 1)) := by
  rw [ringBit, ringBit]
  obtain ⟨hlt, h⟩ | ⟨htop, h⟩ := succ_mod_cases hk
  · have hk' := Nat.lt_of_succ_lt_succ hlt
    rw [h, if_pos hk', rcrStep, getLsbD_ushiftRight_or_carryIn _ _ hk']
    by_cases top : k + 1 = w
    · simp [top]
    · simp [top, show k + 1 < w by omega]
  · rw [h, if_neg (by omega), if_pos hw, rcrStep]

/-- The bit that ROL moves out stands at the bottom (R233). -/
theorem rolStep_snd : (rolStep x).2 = (rolStep x).1.getLsbD 0 := by
  simp [rolStep_eq hw, hw]

/-- The bit that ROR moves out stands at the top (R234). -/
theorem rorStep_snd : (rorStep x).2 = (rorStep x).1.msb := by
  rw [rorStep, BitVec.msb_eq_getLsbD_last, getLsbD_ushiftRight_or_carryIn _ _ (by omega), if_pos (by omega)]

/-- The bit that RCR moves in stands at the top (R236). -/
theorem rcrStep_msb : (rcrStep x).1.msb = x.2 := by
  rw [rcrStep, BitVec.msb_eq_getLsbD_last, getLsbD_ushiftRight_or_carryIn _ _ (by omega), if_pos (by omega)]

end

/-! ## The results as numbers -/

theorem toNat_shiftLeft_eq {w : Nat} (a : BitVec w) (n : Nat) : (a <<< n).toNat = a.toNat * 2 ^ n % 2 ^ w := by
  rw [BitVec.toNat_shiftLeft, Nat.shiftLeft_eq]

theorem toNat_shiftLeft_one {w : Nat} (a : BitVec w) : (a <<< 1).toNat = 2 * a.toNat % 2 ^ w := by
  rw [toNat_shiftLeft_eq, Nat.pow_one, Nat.mul_comm]

theorem toNat_ushiftRight_eq {w : Nat} (a : BitVec w) (n : Nat) : (a >>> n).toNat = a.toNat / 2 ^ n := by
  rw [BitVec.toNat_ushiftRight, Nat.shiftRight_eq_div_pow]

/-- The signed number, rounded down (R239). -/
theorem toInt_sshiftRight_eq {w : Nat} (a : BitVec w) (n : Nat) : (a.sshiftRight n).toInt = a.toInt / 2 ^ n := by
  rw [BitVec.toInt_sshiftRight, Int.shiftRight_eq_div_pow, Nat.cast_pow, Nat.cast_ofNat]

theorem toNat_shiftConcat_eq {w : Nat} (a : BitVec w) (c : Bool) :
    (a.shiftConcat c).toNat = (2 * a.toNat + c.toNat) % 2 ^ w := by
  rw [BitVec.toNat_shiftConcat, Nat.shiftLeft_eq, Nat.pow_one, Nat.mul_comm]

theorem toNat_getLsbD_zero {w : Nat} (a : BitVec w) : (a.getLsbD 0).toNat = a.toNat % 2 := by
  rw [← BitVec.testBit_toNat, Nat.toNat_testBit, Nat.pow_zero, Nat.div_one]

section
variable {w : Nat} (hw : 0 < w) (x : BitVec w × Bool)
include hw

theorem toNat_rolStep : (rolStep x).1.toNat = (2 * x.1.toNat + x.1.msb.toNat) % 2 ^ w := by
  rw [rolStep_eq hw, toNat_shiftConcat_eq]

theorem toNat_rorStep : (rorStep x).1.toNat = x.1.toNat / 2 + 2 ^ (w - 1) * (x.1.toNat % 2) := by
  rw [rorStep, toNat_ushiftRight_or_carryIn hw, toNat_getLsbD_zero]

theorem toNat_rclStep : (rclStep x).1.toNat = (2 * x.1.toNat + x.2.toNat) % 2 ^ w := by
  rw [rclStep_eq hw, toNat_shiftConcat_eq]

theorem toNat_rcrStep : (rcrStep x).1.toNat = x.1.toNat / 2 + 2 ^ (w - 1) * x.2.toNat := by
  rw [rcrStep, toNat_ushiftRight_or_carryIn hw]

end

end Sys2Proof.Spec
end

section
/-!
SUPPORT. The shapes of the shifts and rotates: the flags of R232, and the forms of an instruction from its one-bit step.
-/
namespace Sys2Proof.Spec
open Sys2Proof.Machine

/-! ## The flags (R232) -/

section
variable {w : Nat} (s : State) (ordinary static : Bool) (a v : BitVec w) (last : Bool)

theorem ordinaryFlags_shiftFlags : OrdinaryFlags s v (s.shiftFlags true static a v last) :=
  ⟨resultFlags_resultFlags s v, rfl, rfl, rfl⟩

theorem rotateFlags_shiftFlags : RotateFlags s.flags (s.shiftFlags false static a v last) :=
  ⟨rfl, rfl, rfl, rfl, rfl, rfl, rfl⟩

/-- CF is the last bit moved out. -/
theorem shiftFlags_cf : (s.shiftFlags ordinary static a v last).cf = last := by
  cases ordinary <;> rfl

/-- OF of a static form: the sign bit changed. -/
theorem shiftFlags_of : (s.shiftFlags ordinary true a v last).of = (a.msb != v.msb) := by
  cases ordinary <;> rfl

theorem shiftFlags_of_iff : (s.shiftFlags ordinary true a v last).of = true ↔ a.msb ≠ v.msb := by
  rw [shiftFlags_of, bne_iff_ne]

/-- A shift to the right by one takes the sign bit away (R238). -/
theorem shiftFlags_of_ushiftRight_one : (s.shiftFlags ordinary true a (a >>> 1) last).of = a.msb := by
  simp [shiftFlags_of, BitVec.msb_ushiftRight]

/-- A signed shift to the right keeps the sign bit (R239). -/
theorem shiftFlags_of_sshiftRight (n : Nat) : (s.shiftFlags ordinary true a (a.sshiftRight n) last).of = false := by
  rw [shiftFlags_of, BitVec.msb_sshiftRight, bne_self_eq_false]

end

/-! ## The forms (R231) -/

/-- From `s`, `n` steps on `a` and CF give a result with property `R`, and flags with property `F`. -/
def Gives {w : Nat} (s : State) (ordinary static : Bool) (step : ShiftStep w) (n : Nat) (a : BitVec w)
    (R : BitVec w → Prop) (F : BitVec w → Flags → Prop) : Prop :=
  ∃ v last, repeatStep step n (a, s.flags.cf) = (v, last) ∧ R v ∧ F v (s.shiftFlags ordinary static a v last)

theorem runs8_of_shift8 {s : State} {i : Instr} {l : Loc8} {ordinary static : Bool} {step : ShiftStep 8} {n : Nat}
    {R : Byte → Prop} {F : Byte → Flags → Prop} (hwf : s.mem.wf = true)
    (he : exec i s = shift8 ordinary static step n l s) (h : Gives s ordinary static step n (s.get8 l) R F) :
    Runs8 s i (reads8 s l) l R F := by
  obtain ⟨v, last, steps, value, flags⟩ := h
  rw [shift8, noteGet8_eq_after, steps] at he
  exact runs8_of_flagsAlone hwf he rfl value flags

theorem runs16_of_shift16 {s : State} {i : Instr} {l : Loc16} {ordinary static : Bool} {step : ShiftStep 16} {n : Nat}
    {R : Word → Prop} {F : Word → Flags → Prop} (hwf : s.mem.wf = true)
    (he : exec i s = shift16 ordinary static step n l s) (h : Gives s ordinary static step n (s.get16 l) R F) :
    Runs16 s i (reads16 s l) l R F := by
  obtain ⟨v, last, steps, value, flags⟩ := h
  rw [shift16, noteGet16_eq_after, steps] at he
  exact runs16_of_flagsAlone hwf he rfl value flags

section
variable {s : State} {ordinary : Bool} {step8 : ShiftStep 8} {step16 : ShiftStep 16} {f : Rm8 → Instr} {g : Rm16 → Instr}
  {R8 : Loc8 → Byte → Prop} {F8 : Loc8 → Byte → Flags → Prop} {R16 : Loc16 → Word → Prop}
  {F16 : Loc16 → Word → Flags → Prop}

/-- The static forms: one step. -/
theorem byteAndWord_of_shiftOne (hwf : s.mem.wf = true)
    (h8 : ∀ l, Gives s ordinary true step8 1 (s.get8 l) (R8 l) (F8 l))
    (h16 : ∀ l, Gives s ordinary true step16 1 (s.get16 l) (R16 l) (F16 l))
    (he8 : ∀ m, exec (f m) s = shiftOne8 ordinary step8 (s.loc8 m) s := by intros; rfl)
    (he16 : ∀ m, exec (g m) s = shiftOne16 ordinary step16 (s.loc16 m) s := by intros; rfl) :
    ByteAndWord s (fun i l => Runs8 s i (reads8 s l) l (R8 l) (F8 l))
      (fun i l => Runs16 s i (reads16 s l) l (R16 l) (F16 l)) f g :=
  ⟨fun m => runs8_of_shift8 hwf (he8 m) (h8 _), fun m => runs16_of_shift16 hwf (he16 m) (h16 _)⟩

/-- The dynamic forms with a count that is not 0: CL steps. -/
theorem byteAndWord_of_shiftCl (hwf : s.mem.wf = true) (hcl : s.reg8 .cl ≠ 0)
    (h8 : ∀ l, Gives s ordinary false step8 (s.reg8 .cl).toNat (s.get8 l) (R8 l) (F8 l))
    (h16 : ∀ l, Gives s ordinary false step16 (s.reg8 .cl).toNat (s.get16 l) (R16 l) (F16 l))
    (he8 : ∀ m, exec (f m) s = shiftCl8 ordinary step8 (s.loc8 m) s := by intros; rfl)
    (he16 : ∀ m, exec (g m) s = shiftCl16 ordinary step16 (s.loc16 m) s := by intros; rfl) :
    ByteAndWord s (fun i l => Runs8 s i (reads8 s l) l (R8 l) (F8 l))
      (fun i l => Runs16 s i (reads16 s l) l (R16 l) (F16 l)) f g :=
  ⟨fun m => runs8_of_shift8 hwf ((he8 m).trans (if_neg hcl)) (h8 _),
    fun m => runs16_of_shift16 hwf ((he16 m).trans (if_neg hcl)) (h16 _)⟩

end

/-- The dynamic forms with the count 0: the operand is moved to its own place, whatever the step (R231; log 25). -/
theorem byteAndWord_of_zeroCl {s : State} {f : Rm8 → Instr} {g : Rm16 → Instr} (ordinary : Bool)
    (step : {w : Nat} → ShiftStep w) (hwf : s.mem.wf = true) (hcl : s.reg8 .cl = 0)
    (he8 : ∀ m, exec (f m) s = shiftCl8 ordinary step (s.loc8 m) s := by intros; rfl)
    (he16 : ∀ m, exec (g m) s = shiftCl16 ordinary step (s.loc16 m) s := by intros; rfl) :
    ByteAndWord s (fun i l => Moves8 s i l (s.get8 l) (reads8 s l))
      (fun i l => Moves16 s i l (s.get16 l) (reads16 s l)) f g :=
  ⟨fun m => moves8_of_load hwf ((he8 m).trans (if_pos hcl)), fun m => moves16_of_load hwf ((he16 m).trans (if_pos hcl))⟩

/-- A count that is not 0, as a number. -/
theorem count_ne_zero {b : Byte} (h : b ≠ 0) : b.toNat ≠ 0 := fun e => h (BitVec.eq_of_toNat_eq e)

/-! ## One step: results and flags at any width -/

section
variable {w : Nat} (s : State) (a : BitVec w)

theorem shl_one_gives : Gives s true true shlStep 1 a (fun v => v.toNat = 2 * a.toNat % 2 ^ w)
    fun v g => g.cf = a.msb ∧ (g.of = true ↔ a.msb ≠ v.msb) ∧ OrdinaryFlags s v g :=
  ⟨a <<< 1, _, rfl, toNat_shiftLeft_one a, shiftFlags_cf .., shiftFlags_of_iff .., ordinaryFlags_shiftFlags ..⟩

theorem shr_one_gives : Gives s true true shrStep 1 a (fun v => v.toNat = a.toNat / 2)
    fun v g => g.cf = a.getLsbD 0 ∧ g.of = a.msb ∧ OrdinaryFlags s v g :=
  ⟨a >>> 1, _, rfl, toNat_ushiftRight_eq a 1, shiftFlags_cf .., shiftFlags_of_ushiftRight_one ..,
    ordinaryFlags_shiftFlags ..⟩

theorem sar_one_gives : Gives s true true sarStep 1 a (fun v => v.toInt = a.toInt / 2)
    fun v g => g.cf = a.getLsbD 0 ∧ g.of = false ∧ OrdinaryFlags s v g :=
  ⟨a.sshiftRight 1, _, rfl, toInt_sshiftRight_eq a 1, shiftFlags_cf .., shiftFlags_of_sshiftRight ..,
    ordinaryFlags_shiftFlags ..⟩

theorem rol_one_gives (hw : 0 < w) :
    Gives s false true rolStep 1 a (fun v => v.toNat = (2 * a.toNat + a.msb.toNat) % 2 ^ w)
      fun v g => g.cf = a.msb ∧ (g.of = true ↔ a.msb ≠ v.msb) ∧ RotateFlags s.flags g :=
  ⟨_, _, rfl, toNat_rolStep hw (a, s.flags.cf), shiftFlags_cf .., shiftFlags_of_iff .., rotateFlags_shiftFlags ..⟩

theorem ror_one_gives (hw : 0 < w) :
    Gives s false true rorStep 1 a (fun v => v.toNat = a.toNat / 2 + 2 ^ (w - 1) * (a.toNat % 2))
      fun v g => g.cf = a.getLsbD 0 ∧ (g.of = true ↔ a.msb ≠ v.msb) ∧ RotateFlags s.flags g :=
  ⟨_, _, rfl, toNat_rorStep hw (a, s.flags.cf), shiftFlags_cf .., shiftFlags_of_iff .., rotateFlags_shiftFlags ..⟩

theorem rcl_one_gives (hw : 0 < w) :
    Gives s false true rclStep 1 a (fun v => v.toNat = (2 * a.toNat + s.flags.cf.toNat) % 2 ^ w)
      fun v g => g.cf = a.msb ∧ (g.of = true ↔ a.msb ≠ v.msb) ∧ RotateFlags s.flags g :=
  ⟨_, _, rfl, toNat_rclStep hw (a, s.flags.cf), shiftFlags_cf .., shiftFlags_of_iff .., rotateFlags_shiftFlags ..⟩

/-- The bit that RCR moves in is the new sign, so OF compares the old CF with the old sign. -/
theorem rcr_one_gives (hw : 0 < w) :
    Gives s false true rcrStep 1 a (fun v => v.toNat = a.toNat / 2 + 2 ^ (w - 1) * s.flags.cf.toNat)
      fun _ g => g.cf = a.getLsbD 0 ∧ (g.of = true ↔ s.flags.cf ≠ a.msb) ∧ RotateFlags s.flags g := by
  refine ⟨_, _, rfl, toNat_rcrStep hw (a, s.flags.cf), shiftFlags_cf .., ?_, rotateFlags_shiftFlags ..⟩
  rw [shiftFlags_of_iff, ne_comm]
  exact (rcrStep_msb hw (a, s.flags.cf)).symm ▸ Iff.rfl

/-! ## A count that is not 0: results and flags at any width -/

variable {n : Nat}

theorem shl_gives (hn : n ≠ 0) : Gives s true false shlStep n a (fun v => v.toNat = a.toNat * 2 ^ n % 2 ^ w)
    fun v g => g.cf = (decide (n ≤ w) && a.getLsbD (w - n)) ∧ OrdinaryFlags s v g :=
  ⟨_, _, repeatStep_shlStep hn _, toNat_shiftLeft_eq a n, shiftFlags_cf .., ordinaryFlags_shiftFlags ..⟩

theorem shr_gives (hn : n ≠ 0) : Gives s true false shrStep n a (fun v => v.toNat = a.toNat / 2 ^ n)
    fun v g => g.cf = a.getLsbD (n - 1) ∧ OrdinaryFlags s v g :=
  ⟨_, _, repeatStep_shrStep hn _, toNat_ushiftRight_eq a n, shiftFlags_cf .., ordinaryFlags_shiftFlags ..⟩

theorem sar_gives (hn : n ≠ 0) : Gives s true false sarStep n a (fun v => v.toInt = a.toInt / 2 ^ n)
    fun v g => g.cf = (if n ≤ w then a.getLsbD (n - 1) else a.msb) ∧ OrdinaryFlags s v g :=
  ⟨_, _, repeatStep_sarStep hn _, toInt_sshiftRight_eq a n, shiftFlags_cf .., ordinaryFlags_shiftFlags ..⟩

theorem rol_gives (hw : 0 < w) (hn : n ≠ 0) :
    Gives s false false rolStep n a (fun v => ∀ k < w, v.getLsbD ((k + n) % w) = a.getLsbD k)
      fun v g => g.cf = v.getLsbD 0 ∧ RotateFlags s.flags g :=
  ⟨_, _, rfl, repeatStep_turnsUp (bit := fun x => x.1.getLsbD) (fun x _ => getLsbD_rolStep hw x) n (a, s.flags.cf),
    (shiftFlags_cf ..).trans (repeatStep_of_step (p := fun x => x.2 = x.1.getLsbD 0) (rolStep_snd hw) hn _),
    rotateFlags_shiftFlags ..⟩

theorem ror_gives (hw : 0 < w) (hn : n ≠ 0) :
    Gives s false false rorStep n a (fun v => ∀ k < w, v.getLsbD k = a.getLsbD ((k + n) % w))
      fun v g => g.cf = v.msb ∧ RotateFlags s.flags g :=
  ⟨_, _, rfl, repeatStep_turnsDown (bit := fun x => x.1.getLsbD) (fun x _ => getLsbD_rorStep x) n (a, s.flags.cf),
    (shiftFlags_cf ..).trans (repeatStep_of_step (p := fun x => x.2 = x.1.msb) (rorStep_snd hw) hn _),
    rotateFlags_shiftFlags ..⟩

theorem rcl_gives (hw : 0 < w) (n : Nat) : Gives s false false rclStep n a (fun _ => True)
    fun v g => (∀ k < w + 1, ringBit v g.cf ((k + n) % (w + 1)) = ringBit a s.flags.cf k) ∧ RotateFlags s.flags g :=
  ⟨_, _, rfl, trivial,
    repeatStep_turnsUp (bit := fun x => ringBit x.1 x.2) (fun x _ => ringBit_rclStep hw x) n (a, s.flags.cf),
    rotateFlags_shiftFlags ..⟩

theorem rcr_gives (hw : 0 < w) (n : Nat) : Gives s false false rcrStep n a (fun _ => True)
    fun v g => (∀ k < w + 1, ringBit v g.cf k = ringBit a s.flags.cf ((k + n) % (w + 1))) ∧ RotateFlags s.flags g :=
  ⟨_, _, rfl, trivial,
    repeatStep_turnsDown (bit := fun x => ringBit x.1 x.2) (fun x _ => ringBit_rcrStep hw x) n (a, s.flags.cf),
    rotateFlags_shiftFlags ..⟩

end

end Sys2Proof.Spec
end

section
/-!
The statements about the logic operations, the shifts and the rotates, settled.
-/
namespace Sys2Proof.Proofs
open Sys2Proof.Machine Sys2Proof.Spec

/-- Settles O17: each form is the operation, bit by bit, at its places. -/
theorem logicOperations : Obligations.LogicOperations := by
  intro s hwf
  have and8 := combines8_of_combinesWith hwf (fun _ _ _ => rfl) (andOp_combinesWith s 8)
  have and16 := combines16_of_combinesWith hwf (fun _ _ _ => rfl) (andOp_combinesWith s 16)
  have or8 := combines8_of_combinesWith hwf (fun _ _ _ => rfl) (orOp_combinesWith s 8)
  have or16 := combines16_of_combinesWith hwf (fun _ _ _ => rfl) (orOp_combinesWith s 16)
  have xor8 := combines8_of_combinesWith hwf (fun _ _ _ => rfl) (xorOp_combinesWith s 8)
  have xor16 := combines16_of_combinesWith hwf (fun _ _ _ => rfl) (xorOp_combinesWith s 16)
  exact ⟨⟨sixForms_of_exec and8 and16, immediateForms_of_exec and8 and16⟩,
    ⟨sixForms_of_exec or8 or16, immediateForms_of_exec or8 or16⟩,
    sixForms_of_exec xor8 xor16, immediateForms_of_exec xor8 xor16⟩

/-- Settles O18: the forms of TEST are the conjunction run for its flags, and NOT is the complement with the flags kept. -/
theorem testAndNot : Obligations.TestAndNot := fun _ hwf =>
  ⟨⟨fun _ _ => tests8_of_exec rfl, fun _ _ => tests16_of_exec rfl, fun _ => tests8_of_exec rfl,
      fun _ => tests16_of_exec rfl, fun _ _ => tests8_of_exec rfl, fun _ _ => tests16_of_exec rfl⟩,
    fun _ => runs8_of_unary8 hwf (fun _ _ => rfl) rfl BitVec.toNat_not rfl,
    fun _ => runs16_of_unary16 hwf (fun _ _ => rfl) rfl BitVec.toNat_not rfl⟩

/-- Settles O19: one step of each shift. -/
theorem shiftsByOne : Obligations.ShiftsByOne := fun s hwf =>
  ⟨byteAndWord_of_shiftOne hwf (fun _ => shl_one_gives s _) (fun _ => shl_one_gives s _),
    byteAndWord_of_shiftOne hwf (fun _ => shr_one_gives s _) (fun _ => shr_one_gives s _),
    byteAndWord_of_shiftOne hwf (fun _ => sar_one_gives s _) (fun _ => sar_one_gives s _)⟩

/-- Settles O20: CL steps of each shift in closed form; with CL = 0 a move of the operand to its own place. -/
theorem shiftsByCl : Obligations.ShiftsByCl := fun s hwf =>
  ⟨fun h => byteAndWord_of_shiftCl hwf h (fun _ => shl_gives s _ (count_ne_zero h))
      (fun _ => shl_gives s _ (count_ne_zero h)),
    byteAndWord_of_zeroCl true shlStep hwf,
    fun h => byteAndWord_of_shiftCl hwf h (fun _ => shr_gives s _ (count_ne_zero h))
      (fun _ => shr_gives s _ (count_ne_zero h)),
    byteAndWord_of_zeroCl true shrStep hwf,
    fun h => byteAndWord_of_shiftCl hwf h (fun _ => sar_gives s _ (count_ne_zero h))
      (fun _ => sar_gives s _ (count_ne_zero h)),
    byteAndWord_of_zeroCl true sarStep hwf⟩

/-- Settles O21: one step of each rotate. -/
theorem rotatesByOne : Obligations.RotatesByOne := fun s hwf =>
  have byte : 0 < 8 := by decide
  have word : 0 < 16 := by decide
  ⟨byteAndWord_of_shiftOne hwf (fun _ => rol_one_gives s _ byte) (fun _ => rol_one_gives s _ word),
    byteAndWord_of_shiftOne hwf (fun _ => ror_one_gives s _ byte) (fun _ => ror_one_gives s _ word),
    byteAndWord_of_shiftOne hwf (fun _ => rcl_one_gives s _ byte) (fun _ => rcl_one_gives s _ word),
    byteAndWord_of_shiftOne hwf (fun _ => rcr_one_gives s _ byte) (fun _ => rcr_one_gives s _ word)⟩

/-- Settles O22: CL turns of the operand, or of the ring of the operand and CF; with CL = 0 a move of the operand to its own
place. -/
theorem rotatesByCl : Obligations.RotatesByCl := fun s hwf =>
  have byte : 0 < 8 := by decide
  have word : 0 < 16 := by decide
  ⟨fun h => byteAndWord_of_shiftCl hwf h (fun _ => rol_gives s _ byte (count_ne_zero h))
      (fun _ => rol_gives s _ word (count_ne_zero h)),
    byteAndWord_of_zeroCl false rolStep hwf,
    fun h => byteAndWord_of_shiftCl hwf h (fun _ => ror_gives s _ byte (count_ne_zero h))
      (fun _ => ror_gives s _ word (count_ne_zero h)),
    byteAndWord_of_zeroCl false rorStep hwf,
    fun h => byteAndWord_of_shiftCl hwf h (fun _ => rcl_gives s _ byte _) (fun _ => rcl_gives s _ word _),
    byteAndWord_of_zeroCl false rclStep hwf,
    fun h => byteAndWord_of_shiftCl hwf h (fun _ => rcr_gives s _ byte _) (fun _ => rcr_gives s _ word _),
    byteAndWord_of_zeroCl false rcrStep hwf⟩

end Sys2Proof.Proofs
end

section
/-!
SUPPORT. The shapes of the transfers of control (R250 to R289): jumps, branches, loops, calls and returns, each from the
operations that the meaning is made of.
-/
namespace Sys2Proof.Spec
open Sys2Proof.Machine

/-! ## Jumps (R251 to R255) -/

/-- A jump after bus cycles writes IP, and CS where it goes to another segment (R250). -/
theorem onlyIp_jumpFar {far : Bool} (s : State) (cs : List BusCycle) (seg ip : Word) (h : far = false → seg = s.cs) :
    OnlyIp far cs s ((after s cs).jumpFar seg ip) := by
  obtain ⟨⟨es, -, ss, ds⟩, inner, -, shadow, bus⟩ := frame_after s cs
  exact ⟨fun _ => rfl, rfl, fun _ => rfl, es, h, ss, ds, inner, shadow, bus⟩

theorem jumpsNear_of_exec {s : State} {i : Instr} {ip : Word} {cs : List BusCycle}
    (he : exec i s = .next ((after s cs).jumpNear ip)) : JumpsNear s i ip cs :=
  ⟨_, he, rfl, onlyIp_jumpFar s cs s.cs ip fun _ => rfl⟩

theorem jumpsFar_of_exec {s : State} {i : Instr} {seg ip : Word} {cs : List BusCycle}
    (he : exec i s = .next ((after s cs).jumpFar seg ip)) : JumpsFar s i seg ip cs :=
  ⟨_, he, rfl, rfl, onlyIp_jumpFar s cs seg ip nofun⟩

/-! ## Branches and loops (R256 to R277) -/

/-- A conditional short jump writes IP if its condition holds, nothing otherwise (R256). -/
theorem jumpIf_branches (c : Bool) (rel : Byte) (s : State) :
    ∃ t, jumpIf c rel s = .next t ∧ (c = true → t.ip = s.ip + rel.signExtend 16) ∧ (¬ c = true → t.ip = s.ip) ∧
      OnlyIp false [] s t := by
  cases c with
  | true => exact ⟨_, rfl, fun _ => rfl, fun h => absurd rfl h, onlyIp_jumpFar s [] s.cs _ fun _ => rfl⟩
  | false => exact ⟨s, rfl, nofun, fun _ => rfl, by simp [OnlyIp, RegsKept, MemoryKept, Inner]⟩

/-- Two conditions that say the same are the same branch. -/
theorem BranchesOn.congr {s : State} {i : Instr} {rel : Byte} {p q : Prop} (h : BranchesOn s i rel p) (hpq : p ↔ q) :
    BranchesOn s i rel q :=
  propext hpq ▸ h

/-- A conditional jump of the model, its condition `c` read as the proposition `p`. -/
theorem branchesOn_of_exec {s : State} {i : Instr} {rel : Byte} {c : Bool} {p : Prop} (he : exec i s = jumpIf c rel s)
    (hc : c = true ↔ p := by simp) : BranchesOn s i rel p := by
  obtain ⟨t, ht, branch⟩ := jumpIf_branches c rel s
  exact BranchesOn.congr ⟨t, he.trans ht, branch⟩ hc

/-- A loop instruction is a branch from the state with CX lowered (R274). -/
theorem loopsOn_of_exec {s : State} {i : Instr} {rel : Byte} {c : Bool} {p : Prop} (he : exec i s = loopIf c rel s)
    (hc : c = true ↔ p := by simp) : LoopsOn s i rel p := by
  obtain ⟨t, ht, taken, on, regs, flags, memory, es, cs, ss, ds, inner, shadow, bus⟩ :=
    jumpIf_branches (s.regs.cx - 1 != 0 && c) rel (s.setReg16 .cx (s.regs.cx - 1))
  have cx : t.regs.cx = s.regs.cx - 1 := regs .cx
  have condition : (s.regs.cx - 1 != 0 && c) = true ↔ t.regs.cx ≠ 0 ∧ p := by
    rw [Bool.and_eq_true, bne_iff_ne, hc, cx]
  exact ⟨t, he.trans ht, cx, fun h => taken (condition.2 h), fun h => on fun hb => h (condition.1 hb),
    fun r hr => (regs r).trans (regsKeptBut_setReg16 s .cx _ r hr), flags, memory, ⟨es, cs rfl, ss, ds⟩, inner, shadow, bus⟩

/-! ## Calls (R278 to R281) -/

theorem callsNear_of_exec {s : State} {i : Instr} {ip : Word} {src : List BusCycle} (hwf : s.mem.wf = true)
    (he : exec i s = .next (((after s src).push s.ip).jumpNear ip)) : CallsNear s i ip src := by
  obtain ⟨sp, regs, word, memory, flags⟩ := pushed_push (s := after s src) hwf s.ip
  obtain ⟨segs, inner, -, shadow, bus⟩ := (frame_after s src).trans (frame_push (after s src) s.ip)
  exact ⟨_, he, ⟨sp, regs, word, memory, flags⟩, rfl, segs, inner, shadow, bus⟩

/-- A word on the stack stays when another word, neither at its offset nor next to it, is pushed. -/
theorem StoredWord.push {t : State} {off v : Word} (h : StoredWord t t.ss off v) (w : Word) (h1 : off ≠ t.pushOffset)
    (h2 : t.pushOffset ≠ off + 1) (h3 : off ≠ t.pushOffset + 1) : StoredWord (t.push w) t.ss off v :=
  StoredWord.writeWord (t := t.setReg16 .sp t.pushOffset) h w h1 h2 h3

/-- Two pushes lower SP by 4 and leave both words on the stack, the first above the second; nothing else is written (R160). -/
theorem pushed_twice {s : State} (hwf : s.mem.wf = true) (v w : Word) :
    let t := (s.push v).push w
    t.regs.sp = s.regs.sp - 4 ∧ RegsKeptBut .sp s t ∧ StoredWord t s.ss (s.regs.sp - 2) v ∧
      StoredWord t s.ss (s.regs.sp - 4) w ∧
      (∀ a, ¬ covers16 s (Loc16.mem s.ss (s.regs.sp - 2)) a → ¬ covers16 s (Loc16.mem s.ss (s.regs.sp - 4)) a →
        t.memoryByte a = s.memoryByte a) ∧
      Frame (wordCycles (lockOn s) .write s.ss (s.regs.sp - 4) w ++ pushCycles s v) s t := by
  have first := pushed_push hwf v
  have second := pushed_push (push_wf hwf v) w
  have frame := (frame_push s v).trans (frame_push (s.push v) w)
  have offset : s.regs.sp - 4 = (s.push v).regs.sp - 2 := (BitVec.sub_sub s.regs.sp 2 2).symm
  obtain ⟨apart, below, above⟩ := offsets_apart s.regs.sp (j := 2) (k := 4) (by decide) (by decide) (by decide)
  rw [offset] at apart below above ⊢
  exact ⟨second.sp, fun r hr => (second.regs r hr).trans (first.regs r hr), first.word.push w apart below above, second.word,
    fun a h1 h2 => (second.memory a h2).trans (first.memory a h1), frame⟩

theorem callsFar_of_exec {s : State} {i : Instr} {seg ip : Word} {src : List BusCycle} (hwf : s.mem.wf = true)
    (he : exec i s = .next ((((after s src).push s.cs).push s.ip).jumpFar seg ip)) : CallsFar s i seg ip src := by
  obtain ⟨sp, regs, above, below, memory, frame⟩ := pushed_twice (s := after s src) hwf s.cs s.ip
  obtain ⟨⟨es, -, ss, ds⟩, inner, -, shadow, bus⟩ := (frame_after s src).trans frame
  exact ⟨_, he, rfl, rfl, sp, regs, above, below, memory, rfl, es, ss, ds, inner, shadow, bus⟩

/-! ## Returns (R282 to R285, R289) -/

theorem after_after (s : State) (cs ds : List BusCycle) : after (after s cs) ds = after s (ds ++ cs) := by
  simp only [after, List.append_assoc]

/-- A pop after bus cycles and with SP at `x`: one more word read, SP raised by 2 (R161). -/
theorem popped_after (s : State) (cs : List BusCycle) (x : Word) :
    ((after s cs).setReg16 .sp x).popped =
      (after s (wordCycles (lockOn s) .read s.ss x ((after s cs).readWord s.ss x) ++ cs)).setReg16 .sp (x + 2) := by
  rw [popped_eq_after, ← after_after]
  rfl

/-- Two words popped (R161). -/
theorem popped_twice_eq_after (s : State) :
    s.popped.popped = (after s (twoCycles s)).setReg16 .sp (s.regs.sp + 4) := by
  rw [congrArg State.popped (popped_eq_after s), popped_after, BitVec.add_assoc]
  rfl

/-- Three words popped (R161). -/
theorem popped_thrice_eq_after (s : State) :
    s.popped.popped.popped = (after s (threeCycles s)).setReg16 .sp (s.regs.sp + 6) := by
  rw [congrArg State.popped (popped_twice_eq_after s), popped_after, BitVec.add_assoc]
  rfl

theorem top_popped (s : State) : s.popped.top = secondWord s := by
  rw [popped_eq_after]
  rfl

theorem top_popped_twice (s : State) : s.popped.popped.top = thirdWord s := by
  rw [popped_twice_eq_after]
  rfl

/-- The frame of a return: bus cycles, SP and a jump. -/
theorem returns_of_exec {s : State} {i : Instr} {seg ip sp : Word} {bc : List BusCycle}
    (he : exec i s = .next (((after s bc).setReg16 .sp sp).jumpFar seg ip)) : Returns s i seg ip sp bc := by
  obtain ⟨⟨es, -, ss, ds⟩, inner, -, shadow, bus⟩ := frame_after s bc
  exact ⟨_, he, rfl, rfl, rfl, regsKeptBut_setReg16 s .sp sp, fun _ => rfl, rfl, es, ss, ds, inner, shadow, bus⟩

/-- The return from an interrupt: three words popped, the flags loaded from the third (R289). -/
theorem returnFromInterrupt_eq (s : State) : s.returnFromInterrupt =
    (((after s (threeCycles s)).setReg16 .sp (s.regs.sp + 6)).setFlags (Flags.ofImage (thirdWord s))).jumpFar
      (secondWord s) (topWord s) := by
  rw [State.returnFromInterrupt, top_popped_twice, popped_thrice_eq_after, top_popped]
  rfl

/-! ## Software interrupts (R286 to R288) -/

theorem enters_of_raise {s : State} {i : Instr} {n : Byte} (hwf : s.mem.wf = true) (he : exec i s = .next (s.raise n)) :
    Enters s i n :=
  ⟨_, he, entered_raise hwf n, State.raise_raised s n⟩

/-! ## A call and its return (R278 with R282, R280 with R284) -/

/-- A plain word of the stack stays plain where the platform is the same. -/
theorem PlainWord.congr {s t : State} {seg off : Word} (h : PlainWord s seg off) (hp : t.platform = s.platform) :
    PlainWord t seg off := by
  unfold PlainWord at *
  rwa [isMemory_congr hp, isMemory_congr hp]

/-- Registers kept but for SP, lowered by `n` and raised by `n` again, are kept. -/
theorem regsKept_of_raised {s t u : State} {n : Word} (ht : RegsKeptBut .sp s t) (hu : RegsKeptBut .sp t u)
    (hsp : t.regs.sp = s.regs.sp - n) (hsp' : u.regs.sp = t.regs.sp + n) : RegsKept s u := by
  intro r
  by_cases hr : r = .sp
  · subst hr
    exact hsp'.trans (hsp ▸ BitVec.sub_add_cancel _ _)
  · exact (hu r hr).trans (ht r hr)

end Sys2Proof.Spec
end

section
/-!
SUPPORT. Table 1.4 (R273): the flags of a difference as the relations of its operands, unsigned and signed.
-/
namespace Sys2Proof.Spec
open Sys2Proof.Machine

/-- The flags `g` tell how `a` and `b` compare: CF for the unsigned numbers, ZF for equality, SF against OF for the signed
numbers. -/
structure Compared {w : Nat} (a b : BitVec w) (g : Flags) : Prop where
  below : g.cf = true ↔ a.toNat < b.toNat
  equal : g.zf = true ↔ a = b
  less : g.sf ≠ g.of ↔ a.toInt < b.toInt

/-- SF and OF of a difference disagree exactly where the exact difference is negative: OF says that the sign is wrong. -/
theorem sf_ne_of_iff {w : Nat} (hw : 0 < w) {s : State} {a b : BitVec w} {g : Flags}
    (h : DifferenceFlags s a b 0 (a - b) g) : g.sf ≠ g.of ↔ a.toInt < b.toInt := by
  obtain ⟨of, -, ⟨-, sf, -⟩, -⟩ := h
  have ha := a.le_toInt; have hb := b.le_toInt
  have ha' := a.toInt_lt; have hb' := b.toInt_lt
  have sign : 2 ^ (w - 1) ≤ (a - b).toNat ↔ (a.toInt - b.toInt).bmod (2 ^ w) < 0 := by
    rw [← BitVec.toInt_sub, ← decide_eq_decide, ← BitVec.msb_eq_toInt, ← BitVec.msb_eq_decide]
  rw [Ne, Bool.eq_iff_iff, sf, of, sign, OutOfRange]
  rcases bmod_cases hw (x := a.toInt - b.toInt) (by omega) (by omega) with h | h | h <;> omega

/-- What a comparison leaves in the flags (R45, R189) tells how its operands compare. -/
theorem compared_of_difference {w : Nat} (hw : 0 < w) {s : State} {a b v : BitVec w} {g : Flags}
    (hv : v.toNat = (2 ^ w + a.toNat - b.toNat) % 2 ^ w) (h : DifferenceFlags s a b 0 v g)
    (hcf : g.cf = true ↔ a.toNat < b.toNat) : Compared a b g := by
  have value : v = a - b := by
    have e := toNat_difference hw a b false
    rw [carryIn_false, BitVec.sub_zero] at e
    exact BitVec.eq_of_toNat_eq (hv.trans e.symm)
  subst value
  refine ⟨hcf, ?_, sf_ne_of_iff hw h⟩
  obtain ⟨-, -, ⟨zf, -⟩, -⟩ := h
  rw [zf, ← BitVec.toNat_zero (w := w), BitVec.toNat_inj]
  exact sub_eq_zero

/-- The ten jumps of Table 1.4 from `t`, each taken exactly on its relation of `a` and `b`. -/
def RelationJumps {w : Nat} (t : State) (rel : Byte) (a b : BitVec w) : Prop :=
  BranchesOn t (.ja rel) rel (b.toNat < a.toNat) ∧ BranchesOn t (.jae rel) rel (b.toNat ≤ a.toNat) ∧
    BranchesOn t (.jb rel) rel (a.toNat < b.toNat) ∧ BranchesOn t (.jbe rel) rel (a.toNat ≤ b.toNat) ∧
    BranchesOn t (.je rel) rel (a.toNat = b.toNat) ∧ BranchesOn t (.jne rel) rel (a.toNat ≠ b.toNat) ∧
    BranchesOn t (.jg rel) rel (b.toInt < a.toInt) ∧ BranchesOn t (.jge rel) rel (b.toInt ≤ a.toInt) ∧
    BranchesOn t (.jl rel) rel (a.toInt < b.toInt) ∧ BranchesOn t (.jle rel) rel (a.toInt ≤ b.toInt)

end Sys2Proof.Spec
end

section
/-!
The statements about transfers of control, settled: jumps, loops, calls, returns, and the software interrupts.
-/
namespace Sys2Proof.Proofs
open Sys2Proof.Machine Sys2Proof.Spec

/-- Settles O35: each form is the jump to its target, after the bus cycles that read the target. -/
theorem jumpForms : Obligations.JumpForms := by
  intro s
  refine ⟨fun _ => jumpsNear_of_exec rfl, fun _ => jumpsNear_of_exec rfl, fun m => jumpsNear_of_exec ?near,
    fun _ _ => jumpsFar_of_exec rfl, fun m => jumpsFar_of_exec ?far⟩
  case near =>
    rw [← noteGet16_eq_after]
    rfl
  case far =>
    rw [← noteFar_eq_after, ← farSegment_eq_farSecond]
    rfl

/-- Settles O36: each jump is the one conditional jump of R256, on the flags of its rule. -/
theorem conditionalJumps : Obligations.ConditionalJumps := fun _ _ =>
  ⟨branchesOn_of_exec rfl, branchesOn_of_exec rfl, branchesOn_of_exec rfl, branchesOn_of_exec rfl,
    branchesOn_of_exec rfl, branchesOn_of_exec rfl, branchesOn_of_exec rfl, branchesOn_of_exec rfl,
    branchesOn_of_exec rfl, branchesOn_of_exec rfl, branchesOn_of_exec rfl, branchesOn_of_exec rfl,
    branchesOn_of_exec rfl, branchesOn_of_exec rfl, branchesOn_of_exec rfl, branchesOn_of_exec rfl,
    branchesOn_of_exec rfl⟩

/-- Settles O38: each loop is the branch from the state with CX lowered. -/
theorem loopForms : Obligations.LoopForms :=
  fun _ _ => ⟨loopsOn_of_exec rfl, loopsOn_of_exec rfl, loopsOn_of_exec rfl⟩

/-- Settles O39: the target read, then one push or two, then the jump. -/
theorem callForms : Obligations.CallForms := by
  intro s hwf
  refine ⟨fun _ => callsNear_of_exec hwf rfl, fun m => callsNear_of_exec hwf ?near, fun _ _ => callsFar_of_exec hwf rfl,
    fun m => callsFar_of_exec hwf ?far⟩
  case near =>
    rw [← noteGet16_eq_after]
    rfl
  case far =>
    rw [← noteFar_eq_after, ← farSegment_eq_farSecond]
    rfl

/-- Settles O40: one word popped or two, then the jump, then SP raised by the adjustment. -/
theorem nearAndFarReturns : Obligations.NearAndFarReturns := by
  intro s
  refine ⟨returns_of_exec ?near, fun n => returns_of_exec ?nearN, returns_of_exec ?far, fun n => returns_of_exec ?farN⟩
  case near =>
    rw [← popped_eq_after]
    rfl
  case nearN =>
    have he : exec (.retNearN n) s = .next ((s.popped.jumpNear s.top).dropped n) := rfl
    rw [popped_eq_after] at he
    exact he
  case far =>
    rw [← top_popped, ← popped_twice_eq_after]
    rfl
  case farN =>
    have he : exec (.retFarN n) s = .next ((s.popped.popped.jumpFar s.popped.top s.top).dropped n) := rfl
    rw [popped_twice_eq_after, top_popped] at he
    exact he

/-- Settles O41: the return pops what the call pushed, because the words stand in plain memory. -/
theorem callReturn : Obligations.CallReturn := by
  intro s hwf
  obtain ⟨callNear, -, callFar, -⟩ := callForms s hwf
  refine ⟨fun plain rel => ?near, fun plainCs plainIp off seg => ?far⟩
  case near =>
    obtain ⟨t, ht, pushed, -, ⟨es, cs, ss, ds⟩, ⟨-, -, platform, -⟩, -⟩ := callNear rel
    obtain ⟨u, hu, ip, cs', sp, regs, -, flags, es', ss', ds', -⟩ := (nearAndFarReturns t).1
    have top : topWord t = s.ip := by
      rw [topWord, ss, pushed.sp]
      exact readWord_of_storedWord (plain.congr platform) pushed.word
    exact ⟨t, u, ht, hu, ip.trans top, regsKept_of_raised pushed.regs regs pushed.sp sp, flags.trans pushed.flags,
      es'.trans es, cs'.trans cs, ss'.trans ss, ds'.trans ds⟩
  case far =>
    obtain ⟨t, ht, -, -, sp, regs, savedCs, savedIp, -, flags, es, ss, ds, ⟨-, -, platform, -⟩, -⟩ := callFar off seg
    obtain ⟨-, -, ⟨u, hu, ip, cs, sp', regs', -, flags', es', ss', ds', -⟩, -⟩ := nearAndFarReturns t
    have top : topWord t = s.ip := by
      rw [topWord, ss, sp]
      exact readWord_of_storedWord (plainIp.congr platform) savedIp
    have offset : s.regs.sp - 4 + 2 = s.regs.sp - 2 := by bv_omega
    have second : secondWord t = s.cs := by
      rw [secondWord, ss, sp, offset]
      exact readWord_of_storedWord (t := after t (topCycles t)) (plainCs.congr platform) savedCs
    exact ⟨t, u, ht, hu, ip.trans top, regsKept_of_raised regs regs' sp sp', flags'.trans flags, es'.trans es,
      cs.trans second, ss'.trans ss, ds'.trans ds⟩

/-- Settles O42: each is the interrupt sequence of its type; INTO without overflow is nothing. -/
theorem softwareInterrupts : Obligations.SoftwareInterrupts := by
  intro s hwf
  have into : exec .into s = .next (if s.flags.of = true then s.raise 4 else s) := rfl
  refine ⟨fun _ => enters_of_raise hwf rfl, enters_of_raise hwf rfl, fun h => enters_of_raise hwf ?overflow, fun h => ?none⟩
  case overflow => rw [into, if_pos h]
  case none => rw [into, if_neg (by simp [h])]

/-- Settles O43: the return from an interrupt, its three words in the terms of the statement. -/
theorem interruptReturn : Obligations.InterruptReturn := by
  intro s
  have he : exec .iret s = .next s.returnFromInterrupt := rfl
  rw [returnFromInterrupt_eq] at he
  obtain ⟨⟨es, -, ss, ds⟩, inner, -, shadow, bus⟩ := frame_after s (threeCycles s)
  exact ⟨_, he, rfl, rfl, flagBits_ofImage _, rfl, regsKeptBut_setReg16 s .sp _, fun _ => rfl, es, ss, ds, inner, shadow, bus⟩

/-- Flags that tell how `a` and `b` compare make the condition of each of the ten jumps its relation. -/
theorem relationJumps_of_compared {w : Nat} {t : State} {a b : BitVec w} (h : Compared a b t.flags) (rel : Byte) :
    RelationJumps t rel a b := by
  obtain ⟨below, equal, less⟩ := h
  have equalNat : t.flags.zf = true ↔ a.toNat = b.toNat := equal.trans BitVec.toNat_inj.symm
  have equalInt : t.flags.zf = true ↔ a.toInt = b.toInt := equal.trans BitVec.toInt_inj.symm
  have notLess : t.flags.sf = t.flags.of ↔ b.toInt ≤ a.toInt := not_ne_iff.symm.trans (less.not.trans not_lt)
  obtain ⟨-, -, jb, jae, je, jne, jbe, ja, -, -, -, -, jl, jge, jle, jg, -⟩ := conditionalJumps t rel
  refine ⟨ja.congr ?above, jae.congr ?aboveOrEqual, jb.congr below, jbe.congr ?belowOrEqual, je.congr equalNat,
    jne.congr ?notEqual, jg.congr ?greater, jge.congr notLess, jl.congr less, jle.congr ?lessOrEqual⟩
  case above => rw [← Bool.not_eq_true, ← Bool.not_eq_true, below, equalNat]; omega
  case aboveOrEqual => rw [← Bool.not_eq_true, below]; omega
  case belowOrEqual => rw [below, equalNat]; omega
  case notEqual => rw [← Bool.not_eq_true, equalNat]
  case greater => rw [← Bool.not_eq_true, notLess, equalInt]; omega
  case lessOrEqual => rw [less, equalInt]; omega

/-- Settles O37: CMP leaves flags that tell how its operands compare, and each jump's condition is then its relation. -/
theorem compareAndJump : Obligations.CompareAndJump := by
  intro s rel
  obtain ⟨⟨bytes, words, -⟩, -⟩ := compare s
  refine ⟨fun d r => ?_, fun d r => ?_⟩
  · obtain ⟨t, ht, ⟨v, value, flags, cf⟩, -, -, -, -, ip, -⟩ := bytes d r
    exact ⟨t, ht, ip, relationJumps_of_compared (compared_of_difference (by decide) value flags cf) rel⟩
  · obtain ⟨t, ht, ⟨v, value, flags, cf⟩, -, -, -, -, ip, -⟩ := words d r
    exact ⟨t, ht, ip, relationJumps_of_compared (compared_of_difference (by decide) value flags cf) rel⟩

end Sys2Proof.Proofs
end

section
/-!
SUPPORT. The string instructions (R300 to R309): the index registers stepped, one element of each instruction in the terms of
the statements, and its frame.
-/
namespace Sys2Proof.Spec
open Sys2Proof.Machine

/-! ## The index registers (R301) -/

theorem add_delta (s : State) (x n : Word) : x + s.delta n = stepped s x n := by
  unfold State.delta stepped
  split
  · rw [zero_sub, ← sub_eq_add_neg]
  · rfl

/-- DI stepped by `n`, and SI if it is used (R301). -/
def withIndexes (s : State) (si : Bool) (n : Word) : State :=
  { s with regs := { s.regs with
      si := if si then stepped s s.regs.si n else s.regs.si
      di := stepped s s.regs.di n } }

theorem stepSi_eq (s : State) (n : Word) : s.stepSi n = s.setReg16 .si (stepped s s.regs.si n) := by
  rw [State.stepSi, add_delta]

theorem stepDi_eq (s : State) (n : Word) : s.stepDi n = withIndexes s false n := by
  rw [State.stepDi, add_delta]
  rfl

theorem stepSi_stepDi_eq (s : State) (n : Word) : (s.stepSi n).stepDi n = withIndexes s true n := by
  rw [stepSi_eq, stepDi_eq]
  rfl

theorem reg16_withIndexes (s : State) (si : Bool) (n : Word) {r : Reg16} (hsi : r ≠ .si) (hdi : r ≠ .di) :
    (withIndexes s si n).reg16 r = s.reg16 r := by
  cases r with
  | si => exact absurd rfl hsi
  | di => exact absurd rfl hdi
  | _ => rfl

theorem frame_withIndexes (s : State) (si : Bool) (n : Word) : Frame [] s (withIndexes s si n) := by
  simp [Frame, Segs, Inner, withIndexes]

/-! ## One element (R305 to R309)

MOVS and STOS store a value at ES:DI after the bus cycles that read it; CMPS and SCAS write the flags of a difference after
the bus cycles that read its operands; LODS loads a register. -/

/-- The byte `x`, read by the bus cycles `src`, stored at ES:DI, and the index registers stepped (R305, R309). -/
def stored8 (s : State) (src : List BusCycle) (x : Byte) (si : Bool) : State :=
  withIndexes ((after s src).writeByte s.es s.regs.di x) si 1

/-- The word `x` stored at ES:DI. -/
def stored16 (s : State) (src : List BusCycle) (x : Word) (si : Bool) : State :=
  withIndexes ((after s src).writeWord s.es s.regs.di x) si 2

/-- The flags of `a - b`, read by the bus cycles `cs`, and the index registers stepped by the `n` bytes of an element (R306,
R307). -/
def elementCompared {w : Nat} (s : State) (cs : List BusCycle) (a b : BitVec w) (si : Bool) (n : Word) : State :=
  withIndexes ((after s cs).setFlags (subFlags s a b false)) si n

/-- The bus cycles of CMPS on bytes: the destination element is read after the source element (R306). -/
def bothReads8 (s : State) : List BusCycle :=
  reads8 (after s (reads8 s (source8 s))) (dest8 s) ++ reads8 s (source8 s)

/-- The bus cycles of CMPS on words. -/
def bothReads16 (s : State) : List BusCycle :=
  reads16 (after s (reads16 s (source16 s))) (dest16 s) ++ reads16 s (source16 s)

theorem noteSource8_eq_after (s : State) : s.noteSource8 = after s (reads8 s (source8 s)) := noteReadByte_eq_after s _ _

theorem noteSource16_eq_after (s : State) : s.noteSource16 = after s (reads16 s (source16 s)) := noteReadWord_eq_after s _ _

theorem noteDest8_eq_after (s : State) : s.noteDest8 = after s (reads8 s (dest8 s)) := noteReadByte_eq_after s _ _

theorem noteDest16_eq_after (s : State) : s.noteDest16 = after s (reads16 s (dest16 s)) := noteReadWord_eq_after s _ _

theorem movs8_eq (s : State) :
    movs8 s = stored8 s (reads8 s (source8 s)) (s.readByte (sourceSeg s) s.regs.si) true := by
  rw [movs8, stepSi_stepDi_eq, noteSource8_eq_after]
  rfl

theorem movs16_eq (s : State) :
    movs16 s = stored16 s (reads16 s (source16 s)) (s.readWord (sourceSeg s) s.regs.si) true := by
  rw [movs16, stepSi_stepDi_eq, noteSource16_eq_after]
  rfl

theorem stos8_eq (s : State) : stos8 s = stored8 s [] (s.reg8 .al) false := stepDi_eq _ 1

theorem stos16_eq (s : State) : stos16 s = stored16 s [] s.regs.ax false := stepDi_eq _ 2

theorem cmps8_eq (s : State) : cmps8 s =
    elementCompared s (bothReads8 s) (s.get8 (source8 s)) ((after s (reads8 s (source8 s))).get8 (dest8 s)) true 1 := by
  rw [cmps8, stepSi_stepDi_eq, noteSource8_eq_after, noteDest8_eq_after, after_after]
  rfl

theorem cmps16_eq (s : State) : cmps16 s =
    elementCompared s (bothReads16 s) (s.get16 (source16 s))
      ((after s (reads16 s (source16 s))).get16 (dest16 s)) true 2 := by
  rw [cmps16, stepSi_stepDi_eq, noteSource16_eq_after, noteDest16_eq_after, after_after]
  rfl

theorem scas8_eq (s : State) :
    scas8 s = elementCompared s (reads8 s (dest8 s)) (s.reg8 .al) (s.get8 (dest8 s)) false 1 := by
  rw [scas8, stepDi_eq, noteDest8_eq_after]
  rfl

theorem scas16_eq (s : State) :
    scas16 s = elementCompared s (reads16 s (dest16 s)) s.regs.ax (s.get16 (dest16 s)) false 2 := by
  rw [scas16, stepDi_eq, noteDest16_eq_after]
  rfl

theorem lods8_eq (s : State) : lods8 s =
    ((after s (reads8 s (source8 s))).setReg8 .al (s.readByte (sourceSeg s) s.regs.si)).setReg16 .si
      (stepped s s.regs.si 1) := by
  rw [lods8, stepSi_eq, noteSource8_eq_after]
  rfl

theorem lods16_eq (s : State) : lods16 s =
    ((after s (reads16 s (source16 s))).setReg16 .ax (s.readWord (sourceSeg s) s.regs.si)).setReg16 .si
      (stepped s s.regs.si 2) := by
  rw [lods16, stepSi_eq, noteSource16_eq_after]
  rfl

/-! ## Frames -/

theorem frame_stored8 (s : State) (src : List BusCycle) (x : Byte) (si : Bool) :
    Frame (cycles8 (lockOn s) .write (dest8 s) x ++ src) s (stored8 s src x si) :=
  ((frame_after s src).trans (frame_writeByte (after s src) s.es s.regs.di x)).trans (frame_withIndexes _ si 1)

theorem frame_stored16 (s : State) (src : List BusCycle) (x : Word) (si : Bool) :
    Frame (cycles16 (lockOn s) .write (dest16 s) x ++ src) s (stored16 s src x si) :=
  ((frame_after s src).trans (frame_writeWord (after s src) s.es s.regs.di x)).trans (frame_withIndexes _ si 2)

theorem frame_elementCompared {w : Nat} (s : State) (cs : List BusCycle) (a b : BitVec w) (si : Bool) (n : Word) :
    Frame cs s (elementCompared s cs a b si n) :=
  ((frame_after s cs).trans (frame_setFlags _ _)).trans (frame_withIndexes _ si n)

theorem frame_lods8 (s : State) : Frame (reads8 s (source8 s)) s (lods8 s) := by
  rw [lods8_eq]
  exact ((frame_after s _).trans (frame_setReg8 _ .al _)).trans (frame_setReg16 _ .si _)

theorem frame_lods16 (s : State) : Frame (reads16 s (source16 s)) s (lods16 s) := by
  rw [lods16_eq]
  exact ((frame_after s _).trans (frame_setReg16 _ .ax _)).trans (frame_setReg16 _ .si _)

/-! ## The shapes without REP and REPNE (R302) -/

/-- Without REP and REPNE a string instruction is one element (R302). -/
theorem repeatString_single {s : State} (h : s.pfx.rep = none) (i : Instr) (c : Bool) (prim : State → State) :
    repeatString i c prim s = .next (prim s) := by
  simp [repeatString, h]

theorem storesElement8_of_exec {s : State} {i : Instr} {src : List BusCycle} {x : Byte} {si : Bool}
    (hwf : s.mem.wf = true) (he : exec i s = .next (stored8 s src x si)) : StoresElement8 s i x si src := by
  have written : Written8 s ((after s src).put8 (dest8 s) x) (dest8 s) x :=
    (written8_put8 (s := after s src) hwf (dest8 s) x).of_same rfl rfl rfl
  exact ⟨_, he, written.value, written.memory, rfl, rfl, fun _ => reg16_withIndexes _ si 1, rfl, frame_stored8 s src x si⟩

theorem storesElement16_of_exec {s : State} {i : Instr} {src : List BusCycle} {x : Word} {si : Bool}
    (hwf : s.mem.wf = true) (he : exec i s = .next (stored16 s src x si)) : StoresElement16 s i x si src := by
  have written : Written16 s ((after s src).put16 (dest16 s) x) (dest16 s) x :=
    (written16_put16 (s := after s src) hwf (dest16 s) x).of_same rfl rfl rfl
  exact ⟨_, he, written.value, written.memory, rfl, rfl, fun _ => reg16_withIndexes _ si 2, rfl, frame_stored16 s src x si⟩

theorem comparesElement8_of_exec {s : State} {i : Instr} {cs : List BusCycle} {a b : Byte} {si : Bool}
    (he : exec i s = .next (elementCompared s cs a b si 1)) : ComparesElement8 s i a b si cs :=
  ⟨_, he, ⟨_, toNat_difference (by decide) a b false, differenceFlags_subFlags (by decide) s a b false⟩,
    subFlags_cf_iff s a b false, rfl, rfl, fun _ => reg16_withIndexes _ si 1, fun _ => rfl,
    frame_elementCompared s cs a b si 1⟩

theorem comparesElement16_of_exec {s : State} {i : Instr} {cs : List BusCycle} {a b : Word} {si : Bool}
    (he : exec i s = .next (elementCompared s cs a b si 2)) : ComparesElement16 s i a b si cs :=
  ⟨_, he, ⟨_, toNat_difference (by decide) a b false, differenceFlags_subFlags (by decide) s a b false⟩,
    subFlags_cf_iff s a b false, rfl, rfl, fun _ => reg16_withIndexes _ si 2, fun _ => rfl,
    frame_elementCompared s cs a b si 2⟩

end Sys2Proof.Spec
end

section
/-!
SUPPORT. REP and REPNE (R302, R304): what an element sees of them, the repetition of one element, and the interrupt window
inside an instruction in progress.
-/
namespace Sys2Proof.Spec
open Sys2Proof.Machine

/-! ## REP and REPNE taken away

An element of a string instruction sees REP and REPNE in one way only: the LOCK output, which they release at a window
(D38). Inside an instruction the output is the same without them. -/

/-- The state with neither REP nor REPNE in force. -/
def withoutRepeat (s : State) : State := { s with pfx := { s.pfx with rep := none } }

theorem lockOutput_withoutRepeat {s : State} (h : s.inProgress = none) : (withoutRepeat s).lockOutput = s.lockOutput :=
  (lockOutput_of_single (.inl rfl)).trans (lockOutput_of_single (.inr h)).symm

theorem noteReadByte_withoutRepeat {s : State} (h : s.inProgress = none) (seg off : Word) :
    (withoutRepeat s).noteReadByte seg off = withoutRepeat (s.noteReadByte seg off) := by
  simp only [State.noteReadByte, State.byteCycles, lockOutput_withoutRepeat h]
  rfl

theorem noteReadWord_withoutRepeat {s : State} (h : s.inProgress = none) (seg off : Word) :
    (withoutRepeat s).noteReadWord seg off = withoutRepeat (s.noteReadWord seg off) := by
  simp only [State.noteReadWord, State.wordCycles, State.byteCycles, lockOutput_withoutRepeat h]
  rfl

theorem writeByte_withoutRepeat {s : State} (h : s.inProgress = none) (seg off : Word) (v : Byte) :
    (withoutRepeat s).writeByte seg off v = withoutRepeat (s.writeByte seg off v) := by
  simp only [State.writeByte, State.byteCycles, lockOutput_withoutRepeat h]
  rfl

theorem writeWord_withoutRepeat {s : State} (h : s.inProgress = none) (seg off v : Word) :
    (withoutRepeat s).writeWord seg off v = withoutRepeat (s.writeWord seg off v) := by
  simp only [State.writeWord, State.wordCycles, State.byteCycles, lockOutput_withoutRepeat h]
  rfl

/-! ## One element under REP or REPNE -/

/-- What the repetition needs of one element: it counts nothing itself, it keeps what no string instruction writes, and
REP and REPNE make no difference to it. -/
structure StringElement (prim : State → State) : Prop where
  cx : ∀ s, (prim s).regs.cx = s.regs.cx
  frame : ∀ s, ∃ cs, Frame cs s (prim s)
  withoutRepeat : ∀ s, s.inProgress = none → prim (withoutRepeat s) = withoutRepeat (prim s)

theorem movs8_stringElement : StringElement movs8 where
  cx _ := rfl
  frame s := ⟨_, movs8_eq s ▸ frame_stored8 s _ _ _⟩
  withoutRepeat s h := by
    rw [movs8, State.noteSource8, noteReadByte_withoutRepeat h, writeByte_withoutRepeat (s := s.noteReadByte _ _) h]
    rfl

theorem movs16_stringElement : StringElement movs16 where
  cx _ := rfl
  frame s := ⟨_, movs16_eq s ▸ frame_stored16 s _ _ _⟩
  withoutRepeat s h := by
    rw [movs16, State.noteSource16, noteReadWord_withoutRepeat h, writeWord_withoutRepeat (s := s.noteReadWord _ _) h]
    rfl

theorem cmps8_stringElement : StringElement cmps8 where
  cx _ := rfl
  frame s := ⟨_, cmps8_eq s ▸ frame_elementCompared s _ _ _ _ _⟩
  withoutRepeat s h := by
    rw [cmps8, State.noteSource8, noteReadByte_withoutRepeat h, State.noteDest8,
      noteReadByte_withoutRepeat (s := s.noteReadByte _ _) h]
    rfl

theorem cmps16_stringElement : StringElement cmps16 where
  cx _ := rfl
  frame s := ⟨_, cmps16_eq s ▸ frame_elementCompared s _ _ _ _ _⟩
  withoutRepeat s h := by
    rw [cmps16, State.noteSource16, noteReadWord_withoutRepeat h, State.noteDest16,
      noteReadWord_withoutRepeat (s := s.noteReadWord _ _) h]
    rfl

theorem scas8_stringElement : StringElement scas8 where
  cx _ := rfl
  frame s := ⟨_, scas8_eq s ▸ frame_elementCompared s _ _ _ _ _⟩
  withoutRepeat s h := by
    rw [scas8, State.noteDest8, noteReadByte_withoutRepeat h]
    rfl

theorem scas16_stringElement : StringElement scas16 where
  cx _ := rfl
  frame s := ⟨_, scas16_eq s ▸ frame_elementCompared s _ _ _ _ _⟩
  withoutRepeat s h := by
    rw [scas16, State.noteDest16, noteReadWord_withoutRepeat h]
    rfl

theorem lods8_stringElement : StringElement lods8 where
  cx _ := rfl
  frame s := ⟨_, frame_lods8 s⟩
  withoutRepeat s h := by
    rw [lods8, State.noteSource8, noteReadByte_withoutRepeat h]
    rfl

theorem lods16_stringElement : StringElement lods16 where
  cx _ := rfl
  frame s := ⟨_, frame_lods16 s⟩
  withoutRepeat s h := by
    rw [lods16, State.noteSource16, noteReadWord_withoutRepeat h]
    rfl

theorem stos8_stringElement : StringElement stos8 where
  cx _ := rfl
  frame s := ⟨_, stos8_eq s ▸ frame_stored8 s _ _ _⟩
  withoutRepeat s h := by
    rw [stos8, writeByte_withoutRepeat h]
    rfl

theorem stos16_stringElement : StringElement stos16 where
  cx _ := rfl
  frame s := ⟨_, stos16_eq s ▸ frame_stored16 s _ _ _⟩
  withoutRepeat s h := by
    rw [stos16, writeWord_withoutRepeat h]
    rfl

/-- The ten string instructions are `RepString` of an element, CMPS and SCAS with the test of ZF (R302). -/
theorem exec_string {i : Instr} (h : isString i = true) :
    ∃ c prim, StringElement prim ∧ (c = true ↔ comparesElements i) ∧ ∀ s, exec i s = repeatString i c prim s := by
  cases i with
  | movsb => exact ⟨false, _, movs8_stringElement, by simp [comparesElements], fun _ => rfl⟩
  | movsw => exact ⟨false, _, movs16_stringElement, by simp [comparesElements], fun _ => rfl⟩
  | cmpsb => exact ⟨true, _, cmps8_stringElement, by simp [comparesElements], fun _ => rfl⟩
  | cmpsw => exact ⟨true, _, cmps16_stringElement, by simp [comparesElements], fun _ => rfl⟩
  | scasb => exact ⟨true, _, scas8_stringElement, by simp [comparesElements], fun _ => rfl⟩
  | scasw => exact ⟨true, _, scas16_stringElement, by simp [comparesElements], fun _ => rfl⟩
  | lodsb => exact ⟨false, _, lods8_stringElement, by simp [comparesElements], fun _ => rfl⟩
  | lodsw => exact ⟨false, _, lods16_stringElement, by simp [comparesElements], fun _ => rfl⟩
  | stosb => exact ⟨false, _, stos8_stringElement, by simp [comparesElements], fun _ => rfl⟩
  | stosw => exact ⟨false, _, stos16_stringElement, by simp [comparesElements], fun _ => rfl⟩
  | _ => cases h

theorem stopsOnZero_iff (p : RepeatPrefix) (zf : Bool) : stopsOnZero p zf = true ↔ endsOn p zf := by
  cases p <;> simp [stopsOnZero, endsOn]

/-- The repetition goes on after the element that left the state `t` (R302). -/
def GoesOn (c : Bool) (p : RepeatPrefix) (t : State) : Prop :=
  t.regs.cx ≠ 0 ∧ ¬ (c = true ∧ endsOn p t.flags.zf)

/-- With CX not 0 a repeated instruction is one element, counted, and stays in progress exactly if the repetition goes on
(R302). -/
theorem repeatString_counted {s : State} {p : RepeatPrefix} (hp : s.pfx.rep = some p) (hcx : s.regs.cx ≠ 0) (i : Instr)
    (c : Bool) (prim : State → State) :
    (GoesOn c p (prim s).countElement →
      repeatString i c prim s = .next { (prim s).countElement with inProgress := some i }) ∧
    (¬ GoesOn c p (prim s).countElement → repeatString i c prim s = .next (prim s).countElement) := by
  have ends : ((prim s).countElement.regs.cx = 0 || (c && stopsOnZero p (prim s).countElement.flags.zf)) = true ↔
      ¬ GoesOn c p (prim s).countElement := by
    rw [Bool.or_eq_true, decide_eq_true_eq, Bool.and_eq_true, stopsOnZero_iff, GoesOn, not_and_not_right,
      or_iff_not_imp_left]
  simp only [repeatString, hp, if_neg hcx]
  exact ⟨fun h => if_neg fun e => ends.1 e h, fun h => if_pos (ends.2 h)⟩

/-! ## The window (R304, R328, R365) -/

/-- An element leaves the inputs as they were. -/
theorem StringElement.pins_eq {prim : State → State} (h : StringElement prim) (s : State) : (prim s).pins = s.pins := by
  obtain ⟨cs, -, ⟨-, hpins, -⟩, -⟩ := h.frame s
  exact hpins

/-- An instruction that can stay in progress leaves the inputs as they were. -/
theorem exec_long_pins {i : Instr} (h : isString i = true ∨ i = .wait) (s : State) :
    Leaves (fun t => t.pins = s.pins) (exec i s) := by
  obtain h | rfl := h
  · obtain ⟨c, prim, hprim, -, he⟩ := exec_string h
    have hpins := hprim.pins_eq s
    obtain ⟨-, e⟩ | ⟨-, -, -, e⟩ | ⟨-, -, -, -, e⟩ | ⟨-, -, -, -, e⟩ := repeatString_cases i c prim s <;> rw [he, e]
    · exact hpins
    · exact rfl
    · exact hpins
    · exact hpins
  · have he : exec .wait s = .next (if s.pins.testLevel then { s with inProgress := some .wait } else s) := rfl
    rw [he]
    show (if s.pins.testLevel then { s with inProgress := some .wait } else s).pins = s.pins
    split <;> rfl

/-- Without a shadow a request is seen exactly if there is one (R353, R364). -/
theorem seen_iff_requested {t : State} (h : t.shadow = false) (tf0 : Bool) :
    (t.nmiSeen || t.intrSeen || t.stepSeen tf0) = true ↔ Requested t tf0 := by
  simp [State.nmiSeen, State.intrSeen, State.stepSeen, Requested, h, or_assoc]

theorem twoPrefixes_iff (t : State) :
    t.twoPrefixes = true ↔ t.pfx.rep ≠ none ∧ (t.pfx.seg ≠ none ∨ t.pfx.lock = true) := by
  simp [State.twoPrefixes, Option.isSome_iff_ne_none]

theorem not_twoPrefixes_iff (t : State) :
    t.twoPrefixes = false ↔ t.pfx.rep = none ∨ (t.pfx.seg = none ∧ t.pfx.lock = false) := by
  simp [State.twoPrefixes, or_iff_not_imp_left, Option.isSome_iff_ne_none]

/-- An instruction left for an interrupt: IP at its first byte, nothing in progress, its prefixes ended (R304). -/
def leftAtStart (t : State) : State := { t with ip := t.start, inProgress := none, pfx := Prefixes.none }

/-- The window without a request: the instruction stays in progress. -/
theorem window_idle {t : State} {tf0 : Bool} (hs : t.shadow = false) (h : ¬ Requested t tf0) : t.window tf0 = .next t.trim :=
  if_neg (h ∘ (seen_iff_requested hs tf0).1)

/-- The window with a request under two prefixes (R304). -/
theorem window_twoPrefixes {t : State} {tf0 : Bool} (hs : t.shadow = false) (hclr : t.pins.clrInside = false)
    (h : Requested t tf0) (h2 : t.twoPrefixes = true) : t.window tf0 = .refused .interruptedWithTwoPrefixes := by
  simp only [State.window, (seen_iff_requested hs tf0).2 h, h2, hclr, if_true]
  rfl

/-- The window with a request, but not under two prefixes: the boundary of the state left at the first byte (R304). -/
theorem window_left {t : State} {tf0 : Bool} (hs : t.shadow = false) (h : Requested t tf0) (h2 : t.twoPrefixes = false) :
    t.window tf0 = .next ((leftAtStart t).boundary tf0).trim :=
  (if_pos ((seen_iff_requested hs tf0).2 h)).trans (if_neg (Bool.not_eq_true _ ▸ h2))

/-! ## The boundary with no note (R353) -/

theorem acknowledged_eq (s : State) : s.acknowledged = acknowledgedState s := by
  rw [State.acknowledged, State.onBus, lockOutput_eq_lockOn]
  rfl

section
variable {s : State} (hshadow : s.shadow = false) (hraised : s.raised = false)
include hshadow hraised

/-- With no note left the boundary is the choice among the requests alone. -/
theorem boundary_eq (tf0 : Bool) : s.boundary tf0 =
    if s.pins.nmiPending then ((nmiTaken s).interrupt 2).afterSequence tf0
    else if s.pins.intrLevel && s.flags.ifl then
      ((acknowledgedState s).interrupt s.pins.intrType).afterSequence tf0
    else if tf0 then (s.interrupt 1).afterSequence false
    else s := by
  have cleared : ({ s with shadow := false, raised := false } : State) = s := by
    cases s
    cases hshadow
    cases hraised
    rfl
  simp only [State.boundary, cleared, hraised, State.nmiSeen, State.intrSeen, State.stepSeen, hshadow, Bool.false_and,
    Bool.not_false, Bool.and_true, acknowledged_eq]
  rfl

theorem boundary_nmi (h : s.pins.nmiPending = true) (tf0 : Bool) :
    s.boundary tf0 = ((nmiTaken s).interrupt 2).afterSequence tf0 := by
  rw [boundary_eq hshadow hraised, if_pos h]

theorem boundary_intr (hnmi : s.pins.nmiPending = false) (h : s.pins.intrLevel = true ∧ s.flags.ifl = true) (tf0 : Bool) :
    s.boundary tf0 = ((acknowledgedState s).interrupt s.pins.intrType).afterSequence tf0 := by
  simp [boundary_eq hshadow hraised, hnmi, h]

theorem boundary_trap (hnmi : s.pins.nmiPending = false) (hintr : ¬ (s.pins.intrLevel = true ∧ s.flags.ifl = true)) :
    s.boundary true = (s.interrupt 1).afterSequence false := by
  simp [boundary_eq hshadow hraised, hnmi, hintr]

end

/-! ## The step of an instruction in progress -/

/-- A step with an instruction in progress runs it once more, and then comes its window (R304, R328, R365). -/
theorem step_of_inProgress {s t : State} {i : Instr} (hinv : s.Inv) (hholes : NoHoles s) (hclr : s.pins.clr = false)
    (hinside : s.pins.clrInside = false) (hawake : s.halted = false) (hi : s.inProgress = some i)
    (he : exec i { s with inProgress := none } = .next t) (ht : t.inProgress = some i) :
    step s = t.window s.flags.tf ∧ t.shadow = false ∧ t.raised = false ∧ t.pins.clrInside = false := by
  have long : isString i = true ∨ i = .wait := by
    have progress := hinv.progress
    rw [State.progressOk, hi] at progress
    exact progress.imp_left And.left
  have noPrefix : isPrefix i = false := by
    cases i with
    | overrideEs | overrideCs | overrideSs | overrideDs | lockPrefix | rep | repne => simp [isString] at long
    | _ => rfl
  have tidy : t.Tidy := by
    obtain ⟨running | tidy, -⟩ :=
      exec_next (s := { s with inProgress := none }) ⟨hinv.memory, hinv.ahead, rfl⟩ ⟨hinv.shadow, hinv.raised, hawake⟩ he
    · simp [running.idle] at ht
    · exact tidy
  have pins : t.pins = s.pins := leaves_iff.1 (exec_long_pins long { s with inProgress := none }) t he
  have run_eq : run s = t.window s.flags.tf := by
    rw [← settle_inProgress noPrefix (ht ▸ Option.some_ne_none i), ← he]
    simp [run, hawake, hi]
  refine ⟨?_, tidy.shadow, tidy.raised, pins ▸ hinside⟩
  simp only [step, hclr, hinside, run_eq]
  exact complete_of_present hholes _

end Sys2Proof.Spec
end

section
/-!
The statements about strings, settled: one element of each instruction, the repetition, and the interrupt window in it.
-/
namespace Sys2Proof.Proofs
open Sys2Proof.Machine Sys2Proof.Spec

/-- Settles O49: the element stored at ES:DI for MOVS and STOS, loaded into AL or AX for LODS. -/
theorem stringMoves : Obligations.StringMoves := by
  intro s hwf hrep
  refine ⟨storesElement8_of_exec hwf (movs8_eq s ▸ repeatString_single hrep _ _ _),
    storesElement16_of_exec hwf (movs16_eq s ▸ repeatString_single hrep _ _ _),
    storesElement8_of_exec hwf (stos8_eq s ▸ repeatString_single hrep _ _ _),
    storesElement16_of_exec hwf (stos16_eq s ▸ repeatString_single hrep _ _ _),
    ⟨lods8 s, repeatString_single hrep _ _ _, ?lodsb⟩, ⟨lods16 s, repeatString_single hrep _ _ _, ?lodsw⟩⟩
  case lodsb =>
    have frame := frame_lods8 s
    rw [lods8_eq] at frame ⊢
    exact ⟨lowByte_withLow _ _, highByte_withLow _ _, rfl,
      fun r hax hsi => (regsKeptBut_setReg16 _ .si _ r hsi).trans (regsKeptBut_setReg8_ax _ (.inl rfl) _ r hax), rfl,
      fun _ => rfl, frame⟩
  case lodsw =>
    have frame := frame_lods16 s
    rw [lods16_eq] at frame ⊢
    exact ⟨rfl, rfl,
      fun r hax hsi => (regsKeptBut_setReg16 _ .si _ r hsi).trans (regsKeptBut_setReg16 _ .ax _ r hax), rfl,
      fun _ => rfl, frame⟩

/-- Settles O50: the difference of the two elements, or of the accumulator and the element at ES:DI. -/
theorem stringCompares : Obligations.StringCompares := fun s hrep =>
  ⟨comparesElement8_of_exec (cmps8_eq s ▸ repeatString_single hrep _ _ _),
    comparesElement16_of_exec (cmps16_eq s ▸ repeatString_single hrep _ _ _),
    comparesElement8_of_exec (scas8_eq s ▸ repeatString_single hrep _ _ _),
    comparesElement16_of_exec (scas16_eq s ▸ repeatString_single hrep _ _ _)⟩

/-- Settles O51: one element, counted; it is the same element without REP or REPNE, and the repetition goes on as R302 says. -/
theorem repeatedStrings : Obligations.RepeatedStrings := by
  intro s i p hi hp
  obtain ⟨c, prim, hprim, hc, he⟩ := exec_string hi
  refine ⟨fun hcx => ?zero, fun hcx hidle => ?element⟩
  case zero =>
    rw [he]
    simp only [repeatString, hp, hcx, if_true]
  case element =>
    obtain ⟨cs, segs, ⟨-, -, -, -, pfx, progress, -⟩, ip, -⟩ := hprim.frame s
    have single : exec i (withoutRepeat s) = .next (withoutRepeat (prim s)) := by
      rw [he, repeatString_single rfl, hprim.withoutRepeat s hidle]
    have cx : (prim s).countElement.regs.cx = s.regs.cx - 1 := congrArg (· - 1) (hprim.cx s)
    have others : ∀ r, r ≠ .cx → (prim s).countElement.reg16 r = (prim s).reg16 r :=
      regsKeptBut_setReg16 _ .cx _
    have goesOn_iff : GoesOn c p (prim s).countElement ↔ (prim s).countElement.regs.cx ≠ 0 ∧
        ¬ (comparesElements i ∧ endsOn p (prim s).countElement.flags.zf) := by
      rw [GoesOn, hc]
    obtain ⟨goesOn, ends⟩ := repeatString_counted hp hcx i c prim
    rw [← he] at goesOn ends
    by_cases h : GoesOn c p (prim s).countElement
    · exact ⟨_, _, single, goesOn h, cx, others, rfl, fun _ => rfl, segs, ip, pfx, rfl, .inl rfl,
        iff_of_true rfl (goesOn_iff.1 h)⟩
    · have idle : (prim s).countElement.inProgress = none := progress.trans hidle
      exact ⟨_, _, single, ends h, cx, others, rfl, fun _ => rfl, segs, ip, pfx, rfl, .inr idle,
        iff_of_false (by simp [idle]) (goesOn_iff.not.1 h)⟩

/-- Settles O48: the window of the instruction in progress: without a request it stays; with one, the boundary runs from the
state left at the first byte. -/
theorem interruptWindow : Obligations.InterruptWindow := by
  intro s t i hinv hholes hclr hinside hawake hi he ht hwf
  obtain ⟨step_eq, shadow, raised, inside⟩ := step_of_inProgress hinv hholes hclr hinside hawake hi he ht
  rw [step_eq]
  refine ⟨window_idle shadow, fun hreq hrep h2 => ?refused, fun h1 => ?left⟩
  case refused => exact window_twoPrefixes shadow inside hreq ((twoPrefixes_iff t).2 ⟨hrep, h2⟩)
  case left =>
    have left_eq (hreq : Requested t s.flags.tf) :
        t.window s.flags.tf = .next ((leftAtStart t).boundary s.flags.tf).trim :=
      window_left shadow hreq ((not_twoPrefixes_iff t).2 h1)
    refine ⟨fun hnmi => ?nmi, fun hnmi hlevel hif => ?intr, fun hnmi hintr htf => ?trap⟩
    case nmi =>
      refine ⟨_, entered_interrupt (s := nmiTaken (leftAtStart t)) hwf 2, ?_⟩
      rw [left_eq (.inl hnmi), boundary_nmi (s := leftAtStart t) shadow raised hnmi]
    case intr =>
      refine ⟨_, entered_interrupt (s := acknowledgedState (leftAtStart t)) hwf t.pins.intrType, ?_⟩
      rw [left_eq (.inr (.inl ⟨hlevel, hif⟩)),
        boundary_intr (s := leftAtStart t) shadow raised hnmi ⟨hlevel, hif⟩]
      rfl
    case trap =>
      refine ⟨_, entered_interrupt (s := leftAtStart t) hwf 1, ?_⟩
      rw [left_eq (.inr (.inr htf)), htf, boundary_trap (s := leftAtStart t) shadow raised hnmi hintr]

end Sys2Proof.Proofs
end

section
/-!
SUPPORT. The step of a halted machine, the boundary with nothing to recognise, and the equations of WAIT and ESC.
-/
namespace Sys2Proof.Spec
open Sys2Proof.Machine

/-- The boundary with no note and no request changes nothing (R353). -/
theorem boundary_idle {s : State} (hshadow : s.shadow = false) (hraised : s.raised = false)
    (hnmi : s.pins.nmiPending = false) (hintr : ¬ (s.pins.intrLevel = true ∧ s.flags.ifl = true)) :
    s.boundary false = s := by
  simp [boundary_eq hshadow hraised, hnmi, hintr]

/-- A halted machine without CLR does nothing but recognise interrupts, with no single-step trap owed (R327). -/
theorem step_of_halted {s : State} (hholes : NoHoles s) (hclr : s.pins.clr = false) (hinside : s.pins.clrInside = false)
    (hhalted : s.halted = true) : step s = .next (s.boundary false) := by
  calc
    step s = s.complete (run s) := by simp [step, hclr, hinside]
    _ = run s := complete_of_present hholes _
    _ = .next (s.boundary false) := if_pos hhalted

/-- One test of TEST (R328). -/
theorem exec_wait (s : State) :
    exec .wait s = .next (if s.pins.testLevel then { s with inProgress := some .wait } else s) := rfl

/-- ESC makes the bus cycles of reading its operand, none for a register, and nothing else (R331). -/
theorem exec_esc (hi lo : BitVec 3) (m : Rm16) (s : State) :
    exec (.esc hi lo m) s = .next (after s (reads16 s (s.loc16 m))) := by
  have reads : exec (.esc hi lo m) s = .next (s.noteGet16 (s.loc16 m)) := rfl
  rw [reads, noteGet16_eq_after]

end Sys2Proof.Spec
end

section
/-!
The statements about the control of the processor, settled: the halt state, the flag instructions, WAIT and ESC.
-/
namespace Sys2Proof.Proofs
open Sys2Proof.Machine Sys2Proof.Spec

/-- Settles O47: a halted step is the boundary with no trap owed, one case for each thing it can recognise. -/
theorem halting : Obligations.Halting := by
  refine ⟨fun _ => rfl, fun s hinv hholes hclr hinside hhalted => ?_⟩
  rw [step_of_halted hholes hclr hinside hhalted]
  refine ⟨fun hnmi hintr => ?idle, fun hnmi => ?nmi, fun hnmi hlevel hif => ?intr⟩
  case idle => rw [boundary_idle hinv.shadow hinv.raised hnmi hintr]
  case nmi =>
    exact ⟨_, entered_interrupt (s := nmiTaken s) hinv.memory 2,
      congrArg _ (boundary_nmi hinv.shadow hinv.raised hnmi false)⟩
  case intr =>
    exact ⟨_, entered_interrupt (s := acknowledgedState s) hinv.memory s.pins.intrType,
      congrArg _ (boundary_intr hinv.shadow hinv.raised hnmi ⟨hlevel, hif⟩ false)⟩

/-- Settles O52: each of the seven meanings is the one flag written; STI notes the boundary after it. -/
theorem flagInstructions : Obligations.FlagInstructions := fun _ =>
  ⟨rfl, rfl, rfl, rfl, rfl, rfl, rfl⟩

/-- Settles O53: WAIT at the two levels of TEST, and ESC by the bus cycles of its operand. -/
theorem waitAndEscape : Obligations.WaitAndEscape := by
  refine fun s => ⟨fun hlow => ?low, fun hhigh => ?high, fun hi lo m => exec_esc hi lo m s⟩
  case low => simp [exec_wait, hlow]
  case high => simp [exec_wait, hhigh]

end Sys2Proof.Proofs
end

section
/-!
SUPPORT. The decimal corrections (R341 to R346): the numbers they leave in AL and AH, and the shape of the three results, packed,
unpacked and by tens.
-/
namespace Sys2Proof.Spec
open Sys2Proof.Machine

/-! ## The numbers -/

theorem lowDigit_eq (s : State) : s.lowDigit = lowCorrection s := rfl

theorem highDigit_eq (s : State) : s.highDigit = highCorrection s := rfl

/-- The number DAA adds and DAS subtracts has no carry out of its byte (R341, R342). -/
theorem toNat_packedCorrection (s : State) :
    s.packedCorrection.toNat = (if lowCorrection s then 6 else 0) + (if highCorrection s then 0x60 else 0) := by
  rw [State.packedCorrection, lowDigit_eq, highDigit_eq]
  cases lowCorrection s <;> cases highCorrection s <;> rfl

theorem toNat_and_lowDigit (v : Byte) : (v &&& 0x0F).toNat = v.toNat % 16 :=
  (BitVec.toNat_and v 0x0F).trans (Nat.and_two_pow_sub_one_eq_mod v.toNat 4)

theorem toNat_sub_eq (a b : Byte) : (a - b).toNat = (a.toNat + 256 - b.toNat) % 256 := by
  have := b.isLt
  rw [BitVec.toNat_sub]
  omega

/-- AAA as one unpacked result (R343). -/
theorem aaa_eq (s : State) : s.aaa =
    s.unpackedResult (s.reg8 .al + if lowCorrection s then 6 else 0) (s.reg8 .ah + if lowCorrection s then 1 else 0) := by
  rw [State.aaa, lowDigit_eq]
  cases lowCorrection s <;> simp

/-- AAS as one unpacked result (R344). -/
theorem aas_eq (s : State) : s.aas =
    s.unpackedResult (s.reg8 .al - if lowCorrection s then 6 else 0) (s.reg8 .ah - if lowCorrection s then 1 else 0) := by
  rw [State.aas, lowDigit_eq]
  cases lowCorrection s <;> simp

/-! ## The results -/

theorem AccumulatorAlone.setReg8 {both : Bool} {cs : List BusCycle} {s t : State} (h : AccumulatorAlone both cs s t)
    {r : Reg8} (hr : r = .al ∨ r = .ah) (v : Byte) : AccumulatorAlone both cs s (t.setReg8 r v) where
  regs q hax hdx := (regsKeptBut_setReg8_ax t hr v q hax).trans (h.regs q hax hdx)
  memory := h.memory
  frame := h.frame.trans (frame_setReg8 t r v)

theorem accumulatorAlone_setFlags_drawn (s : State) (f : Flags) (n : Nat) :
    AccumulatorAlone false [] s ((s.setFlags f).drawn n) := accumulatorAlone_of_flagsAlone rfl

section
variable {s : State} {i : Instr} {al ah : Byte} {x y : Nat}

/-- A packed correction writes AL alone; OF is free (R341, R342). -/
theorem corrects_of_packedResult (he : exec i s = .next (s.packedResult al)) (hx : al.toNat = x) :
    Corrects s i x (s.reg8 .ah).toNat
      (fun v g => g.af = lowCorrection s ∧ g.cf = highCorrection s ∧ ResultFlags s v g) := by
  refine ((accumulatorAlone_setFlags_drawn s _ 1).setReg8 (.inl rfl) al).runs he
    ⟨?al, ?ah, ⟨rfl, rfl, ?flags⟩, rfl, rfl, rfl⟩
  case al => rw [reg8_setReg8_same, hx]
  case ah => exact congrArg BitVec.toNat (reg8_setReg8_other _ (by decide) al)
  case flags =>
    rw [reg8_setReg8_same]
    exact resultFlags_resultFlags s al

/-- An unpacked correction keeps the low digit of AL; OF, SF, ZF and PF are free (R343, R344). -/
theorem corrects_of_unpackedResult (he : exec i s = .next (s.unpackedResult al ah)) (hx : al.toNat % 16 = x)
    (hy : ah.toNat = y) : Corrects s i x y (fun _ g => g.af = lowCorrection s ∧ g.cf = lowCorrection s) := by
  refine ((accumulatorAlone_setFlags_drawn s _ 4).setReg16 (.inl rfl) _).runs he ⟨?al, ?ah, ⟨rfl, rfl⟩, rfl, rfl, rfl⟩
  case al => rw [reg8_al_setReg16_ax, toNat_and_lowDigit, hx]
  case ah => rw [reg8_ah_setReg16_ax, hy]

/-- AAM and AAD write both halves of AX; OF, AF and CF are free (R345, R346). -/
theorem corrects_of_tensResult (he : exec i s = .next (s.tensResult al ah)) (hx : al.toNat = x) (hy : ah.toNat = y) :
    Corrects s i x y (fun v g => ResultFlags s v g) := by
  refine ((accumulatorAlone_setFlags_drawn s _ 3).setReg16 (.inl rfl) _).runs he ⟨?al, ?ah, ?flags, rfl, rfl, rfl⟩
  case al => rw [reg8_al_setReg16_ax, hx]
  case ah => rw [reg8_ah_setReg16_ax, hy]
  case flags =>
    rw [reg8_al_setReg16_ax]
    exact resultFlags_resultFlags s al

end

end Sys2Proof.Spec
end

section
/-!
The statement about the decimal corrections, settled.
-/
namespace Sys2Proof.Proofs
open Sys2Proof.Machine Sys2Proof.Spec

/-- Settles O55: each correction is one of the three results, and the byte arithmetic of the model gives the numbers of its
rule. -/
theorem decimalCorrections : Obligations.DecimalCorrections := by
  intro s
  have al_lt := (s.reg8 .al).isLt
  have ah_lt := (s.reg8 .ah).isLt
  refine ⟨corrects_of_packedResult rfl ?daa, corrects_of_packedResult rfl ?das,
    corrects_of_unpackedResult (congrArg Host.Outcome.next (aaa_eq s)) ?aaaAl ?aaaAh,
    corrects_of_unpackedResult (congrArg Host.Outcome.next (aas_eq s)) ?aasAl ?aasAh,
    corrects_of_tensResult rfl ?aamAl ?aamAh, corrects_of_tensResult rfl ?aad rfl⟩
  case daa => rw [BitVec.toNat_add, toNat_packedCorrection, Nat.add_assoc]
  case das =>
    rw [toNat_sub_eq, toNat_packedCorrection]
    split <;> split <;> omega
  case aaaAl =>
    rw [BitVec.toNat_add]
    cases lowCorrection s <;> simp
  case aaaAh =>
    rw [BitVec.toNat_add]
    cases lowCorrection s <;> rfl
  case aasAl =>
    rw [toNat_sub_eq]
    cases lowCorrection s with
    | false => simp
    | true =>
      change ((s.reg8 .al).toNat + 256 - 6) % 256 % 16 = ((s.reg8 .al).toNat + 16 - 6) % 16
      omega
  case aasAh =>
    rw [toNat_sub_eq]
    cases lowCorrection s <;> rfl
  case aamAl => exact Nat.mod_eq_of_lt (by omega)
  case aamAh => exact Nat.mod_eq_of_lt (by omega)
  case aad => simp [BitVec.toNat_add, BitVec.toNat_mul]

end Sys2Proof.Proofs
end

section
/-!
SUPPORT. What follows an interrupt sequence (Seq of R353) as one choice, the boundary with the note of a raised type, and the
stack as an interrupt sequence leaves it for the return (R356, R289).
-/
namespace Sys2Proof.Spec
open Sys2Proof.Machine

/-! ## What follows a sequence (R352, R353) -/

/-- A sequence has ended: the NMI pulse that came while it ran, if one did, is in the latch (R352, R354). -/
def nmiLatched (s : State) : State :=
  { s with pins := { s.pins with
      nmiPending := s.pins.nmiPending || s.pins.nmiDuring.headD false, nmiDuring := s.pins.nmiDuring.tail } }

/-- With no pulse to come the latch stays as it is. -/
theorem nmiLatched_of_nil {s : State} (h : s.pins.nmiDuring = []) : nmiLatched s = s := by
  simp only [nmiLatched, h, List.headD_nil, List.tail_nil, Bool.or_false]
  rw [← h]

theorem nmiLatched_of_cons {s : State} {pulse : Bool} {rest : List Bool} (h : s.pins.nmiDuring = pulse :: rest) :
    nmiLatched s = s.latchNmi pulse rest := by
  simp [nmiLatched, State.latchNmi, h]

/-- The test after a sequence, with the pulse latched: NMI, which drops the owed trap, or else the owed trap; the test comes
again after the sequence of either, with no trap owed (R353). -/
theorem afterSequence_eq (s : State) (owed : Bool) : s.afterSequence owed =
    if (nmiLatched s).pins.nmiPending then (nmiLatched s).takeNmi.afterSequence false
    else if owed then ((nmiLatched s).interrupt 1).afterSequence false
    else nmiLatched s := by
  cases hd : s.pins.nmiDuring with
  | nil =>
    rw [nmiLatched_of_nil hd]
    cases hn : s.pins.nmiPending with
    | true => simpa [afterSequence_nmi hn hd] using (afterSequence_idle (s := s.takeNmi) rfl hd).symm
    | false =>
      cases owed with
      | true => simpa [afterSequence_owed hn hd] using (afterSequence_idle (s := s.interrupt 1) hn hd).symm
      | false => simp [afterSequence_idle hn hd]
  | cons pulse rest =>
    rw [nmiLatched_of_cons hd, State.afterSequence, hd]
    rfl

theorem afterSequence_nmiLatched {s : State} (h : (nmiLatched s).pins.nmiPending = true) (owed : Bool) :
    s.afterSequence owed = (nmiLatched s).takeNmi.afterSequence false := by
  rw [afterSequence_eq, if_pos h]

theorem afterSequence_trap {s : State} (h : (nmiLatched s).pins.nmiPending = false) :
    s.afterSequence true = ((nmiLatched s).interrupt 1).afterSequence false := by
  simp [afterSequence_eq s, h]

theorem afterSequence_none {s : State} (h : (nmiLatched s).pins.nmiPending = false) :
    s.afterSequence false = nmiLatched s := by
  simp [afterSequence_eq s, h]

/-! ## The boundary after a raised type (R353) -/

/-- A state with no note is the state with its notes cleared. -/
theorem clearNotes_eq {s : State} (hshadow : s.shadow = false) (hraised : s.raised = false) :
    ({ s with shadow := false, raised := false } : State) = s := by
  cases s
  cases hshadow
  cases hraised
  rfl

/-- The sequence of a type that the instruction raised has run: what follows it comes next. -/
theorem boundary_raised {s : State} (h : s.raised = true) (tf0 : Bool) :
    s.boundary tf0 = ({ s with shadow := false, raised := false } : State).afterSequence tf0 := if_pos h

/-! ## The step of a whole instruction (R353) -/

theorem not_requested_iff {t : State} : ¬ Requested t false ↔
    t.pins.nmiPending = false ∧ ¬ (t.pins.intrLevel = true ∧ t.flags.ifl = true) := by
  simp [Requested]

/-- Where something answers at every address, a whole instruction is followed by the boundary with the TF it began with
(R353, R360). -/
theorem step_of_whole {s u t : State} {i : Instr} (hs : s.ready) (hholes : NoHoles s) (hf : s.fetch = .ok (i, u))
    (hm : s.misplacedRepeat i = false) (hp : isPrefix i = false) (he : exec i u = .next t) (ht : t.inProgress = none) :
    step s = .next (t.endPrefixes.boundary s.flags.tf).trim := by
  rw [step_of_fetch hs hf hm, complete_of_present hholes, he, settle_whole hp ht]

/-! ## The stack after a sequence (R356, R289) -/

/-- A word fixes the nine flags whose bits it has. -/
theorem FlagBits.eq_ofImage {w : Word} {f : Flags} (h : FlagBits w f) : f = Flags.ofImage w := by
  obtain ⟨cf, pf, af, zf, sf, tf, ifl, df, of⟩ := h
  cases f
  simp only [Flags.ofImage, cf, pf, af, zf, sf, tf, ifl, df, of]

theorem FlagBits.unique {w : Word} {f g : Flags} (hf : FlagBits w f) (hg : FlagBits w g) : f = g :=
  hf.eq_ofImage.trans hg.eq_ofImage.symm

section
variable {s t : State} {n : Byte} (h : Entered s t n)
include h

theorem Entered.ss_eq : t.ss = s.ss := by
  obtain ⟨-, ss, -⟩ := h.segs
  exact ss

theorem Entered.platform_eq : t.platform = s.platform := by
  obtain ⟨-, -, platform, -⟩ := h.inner
  exact platform

/-- The top of the stack is the saved IP. -/
theorem Entered.topWord_eq (plain : PlainWord s s.ss (s.regs.sp - 6)) : topWord t = s.ip := by
  rw [topWord, h.ss_eq, h.sp]
  exact readWord_of_storedWord (plain.congr h.platform_eq) h.savedIp

/-- Below it is the saved CS. -/
theorem Entered.secondWord_eq (plain : PlainWord s s.ss (s.regs.sp - 4)) : secondWord t = s.cs := by
  have offset : s.regs.sp - 6 + 2 = s.regs.sp - 4 := by bv_omega
  rw [secondWord, h.ss_eq, h.sp, offset]
  exact readWord_of_storedWord (t := after t _) (plain.congr h.platform_eq) h.savedCs

/-- The third word has the saved flags. -/
theorem Entered.flagBits_thirdWord (plain : PlainWord s s.ss (s.regs.sp - 2)) : FlagBits (thirdWord t) s.flags := by
  obtain ⟨w, bits, stored, -⟩ := h.saved
  have offset : s.regs.sp - 6 + 4 = s.regs.sp - 2 := by bv_omega
  have third : thirdWord t = w := by
    rw [thirdWord, h.ss_eq, h.sp, offset]
    exact readWord_of_storedWord (t := after t _) (plain.congr h.platform_eq) stored
  exact third ▸ bits

end

end Sys2Proof.Spec
end

section
/-!
The statements about interrupts, settled: the round trip of INT n and IRET, the single-step trap, and the order of the boundary.
-/
namespace Sys2Proof.Proofs
open Sys2Proof.Machine Sys2Proof.Spec

/-- Settles O44: IRET pops the three words that INT n pushed, because they stand in plain memory. -/
theorem interruptRoundTrip : Obligations.InterruptRoundTrip := by
  intro s hwf plainFlags plainCs plainIp n
  obtain ⟨t, ht, entered, -⟩ := (softwareInterrupts s hwf).1 n
  obtain ⟨u, hu, ip, cs, bits, sp, regs, -, es, ss, ds, -⟩ := interruptReturn t
  obtain ⟨es', ss', ds'⟩ := entered.segs
  exact ⟨t, u, ht, hu, ip.trans (entered.topWord_eq plainIp), bits.unique (entered.flagBits_thirdWord plainFlags),
    regsKept_of_raised entered.regs regs entered.sp sp, es.trans es', cs.trans (entered.secondWord_eq plainCs),
    ss.trans ss', ds.trans ds'⟩

/-- Settles O45: the boundary after the instruction, with nothing else requested, is the trap or nothing. -/
theorem singleStep : Obligations.SingleStep := by
  intro s u t i hs hholes hf hm hp he ht hshadow hraised hwf hreq
  obtain ⟨hnmi, hintr⟩ := not_requested_iff.1 hreq
  rw [step_of_whole hs hholes hf hm hp he ht]
  refine ⟨fun htf => ?trap, fun htf => ?quiet⟩
  case trap =>
    refine ⟨_, entered_interrupt (s := t.endPrefixes) hwf 1, ?_⟩
    rw [htf, boundary_trap (s := t.endPrefixes) hshadow hraised hnmi hintr]
  case quiet =>
    rw [htf, boundary_idle (s := t.endPrefixes) hshadow hraised hnmi hintr]
    exact ⟨_, rfl, rfl, ⟨rfl, rfl, rfl, rfl⟩, rfl, fun _ => rfl, fun _ => rfl⟩

/-- Settles O46: each case of the boundary, then each case of the test after a sequence. -/
theorem boundaryOrder : Obligations.BoundaryOrder := by
  intro s hwf quiet intr latched enters
  have sequence {v w : State} {n : Byte} {owed : Bool} (hv : v.mem.wf = true)
      (hw : w = (v.interrupt n).afterSequence owed) : enters v w n owed :=
    ⟨_, entered_interrupt hv n, interrupt_wf hv n, hw⟩
  refine ⟨fun hshadow tf0 => ⟨fun hraised => boundary_raised hraised tf0, fun hraised hnmi => ?nmi,
    fun hraised hnmi hintr => ?intr, fun hraised hnmi hintr howed => ?trap, fun hraised hnmi hintr howed => ?none⟩,
    fun owed => ⟨fun hnmi => ?nmiAfter, fun hnmi howed => ?trapAfter, fun hnmi howed => ?noneAfter⟩⟩
  case nmi => exact sequence (v := nmiTaken s) hwf (boundary_nmi hshadow hraised hnmi tf0)
  case intr => exact sequence (v := acknowledgedState s) hwf (boundary_intr hshadow hraised hnmi hintr tf0)
  case trap => exact sequence hwf (howed ▸ boundary_trap hshadow hraised hnmi hintr)
  case none => exact howed ▸ (boundary_idle hshadow hraised hnmi hintr).trans (clearNotes_eq hshadow hraised).symm
  case nmiAfter => exact sequence (v := nmiTaken latched) hwf (afterSequence_nmiLatched hnmi owed)
  case trapAfter => exact sequence (v := latched) hwf (howed ▸ afterSequence_trap hnmi)
  case noneAfter => exact howed ▸ afterSequence_none hnmi

end Sys2Proof.Proofs
end

section
/-!
SUPPORT. CLR inside a step (R400): what the bus cycles made before it store, which of the cycles they are, and that a string
element it cuts short is not refused.
-/
namespace Sys2Proof.Machine
open Sys2Proof.Spec

/-! ## The bus cycles made before CLR (R78, R400) -/

theorem redo_eq_stores (s : State) : s.redo = Stores s := by
  funext m ⟨direction, target, data, lock⟩
  cases direction with
  | read => rfl
  | write => cases target <;> cases data <;> rfl

theorem newFetches_of_append {s t : State} {fs : List BusCycle} (h : t.fetches = fs ++ s.fetches) :
    s.newFetches t = fs.reverse := by
  simp [State.newFetches, gained, h]

/-- The cycles made before CLR are some of those of the step, in their order. -/
theorem made_sublist (n : Nat) (p : BusCycle → Bool) (cs : List BusCycle) :
    (someCycles n (cs.takeWhile p)).Sublist cs :=
  (someCycles_sublist n _).trans (List.takeWhile_sublist p)

/-- Each cycle made before CLR is answered: none is made from the first that nothing answers on (R78). -/
theorem answered_of_mem_made {s : State} {n : Nat} {cs : List BusCycle} {c : BusCycle}
    (h : c ∈ someCycles n (cs.takeWhile s.answered)) : ∀ a ∈ c.addresses, s.kindAt a ≠ .absent :=
  answered_iff.1 (List.mem_takeWhile_imp ((someCycles_sublist n _).mem h))

/-! ## The reset state (R55) -/

theorem resetFrom_resetEvent (s : State) : ResetFrom s s.resetEvent :=
  ⟨rfl, rfl, rfl, rfl, rfl, rfl, rfl, rfl, rfl, rfl, rfl, rfl, rfl, rfl⟩

/-- An abandoned step differs from the whole one in memory, records and draws, of which the table of R55 says nothing. -/
theorem resetFrom_abandoned (s t : State) : ResetFrom t (s.abandoned t) := resetFrom_resetEvent _

/-! ## An element cut short (R400, R304) -/

theorem isPrefix_of_isString {i : Instr} (h : isString i = true) : isPrefix i = false := by
  cases i with
  | overrideEs | overrideCs | overrideSs | overrideDs | lockPrefix | rep | repne => cases h
  | _ => rfl

/-- Under CLR the window answers a state: the only refusal, of an interrupt with two prefixes, is not reached (R304, R400). -/
theorem window_next_of_clrInside {t : State} (h : t.pins.clrInside = true) (tf0 : Bool) : ∃ u, t.window tf0 = .next u := by
  rw [State.window, if_pos h]
  split
  · split <;> exact ⟨_, rfl⟩
  · exact ⟨_, rfl⟩

/-- Under CLR whatever follows an answered instruction, the prefixes apart, is a state. -/
theorem settle_next_of_clrInside {i : Instr} {t : State} (hp : isPrefix i = false) (h : t.pins.clrInside = true)
    (tf0 : Bool) : ∃ u, settle i tf0 (.next t) = .next u := by
  by_cases ht : t.inProgress = none
  · exact ⟨_, settle_whole hp ht tf0⟩
  · rw [settle_inProgress hp ht]
    exact window_next_of_clrInside h tf0

theorem run_of_inProgress {s : State} {i : Instr} (hawake : s.halted = false) (hi : s.inProgress = some i) :
    run s = settle i s.flags.tf (exec i { s with inProgress := none }) := by
  simp [run, hawake, hi]

end Sys2Proof.Machine
end

section
/-!
The statement about CLR, settled: the reset between steps, inside one, and inside an element of a repeated string instruction.
-/
namespace Sys2Proof.Proofs
open Sys2Proof.Machine Sys2Proof.Spec

/-- Settles O58: at a step's start `resetEvent` alone, inside a step the same after the cycles that were made; a string element
keeps the inputs, so CLR is active still where its window would refuse. -/
theorem resetEvent : Obligations.ResetEvent := by
  intro s
  refine ⟨fun hclr => ?between, fun u cs fs hclr hinside hrun hbus hfetches => ?inside,
    fun i t hinside hawake hi hstring he => ?element⟩
  case between => exact ⟨s.resetEvent, if_pos hclr, resetFrom_resetEvent s, rfl, rfl, rfl⟩
  case inside =>
    have step_eq : step s = .next (s.abandoned u) := by
      simp [step, hclr, hinside, hrun, State.abandon]
    rw [← newCycles_of_append hbus, ← newFetches_of_append hfetches]
    exact ⟨_, _, _, step_eq, resetFrom_abandoned s u, made_sublist _ _ _, fun _ => answered_of_mem_made, rfl,
      redo_eq_stores s ▸ rfl, someCycles_sublist _ _, rfl⟩
  case element =>
    have pins : t.pins = s.pins := by
      have leaves := exec_long_pins (.inl hstring) { s with inProgress := none }
      rwa [he] at leaves
    rw [run_of_inProgress hawake hi, he]
    exact settle_next_of_clrInside (isPrefix_of_isString hstring) (pins ▸ hinside) _

end Sys2Proof.Proofs
end
